-- ==== Sys2Proof/Word.lean ====
section
/-! DEFINITION. The two word widths of the machine: bytes and addresses (00_scope.md R4, R5). -/

namespace Sys2Proof

/-- `XLEN` = 8 bits: `a`, `x`, a memory cell, a ring cell (00_scope.md R4, R5). -/
abbrev Byte := BitVec 8

/-- `ALEN` = 16 bits: `pc`, `sp` and every memory address (00_scope.md R4, R5). -/
abbrev Addr := BitVec 16

end Sys2Proof
end

