-- ==== Sys2Proof/Syntax.lean ====
section
/-! DEFINITION. The instruction set as syntax: one constructor per row of spec/opcode_table.json (30_encoding.md R65, R66),
named by its mnemonic and, where the mnemonic has several rows, its format. Below it, the operand forms the rules speak of, and
the descriptors a decode table `OPTAB` is made of (30_encoding.md R64). -/

namespace Sys2Proof

/-- The 200 assigned opcodes (30_encoding.md R65). An operand field keeps the name 30_encoding.md R61 gives it: `ii` immediate
value, `dd` direct address byte, `hhll` extended address, `ff` 8-bit offset, `eeff` 16-bit offset, `rr` signed offset. -/
inductive Instr where
  -- column 0x0
  | brset0 (dd : Byte) (rr : Byte)
  | brclr0 (dd : Byte) (rr : Byte)
  | brset1 (dd : Byte) (rr : Byte)
  | brclr1 (dd : Byte) (rr : Byte)
  | brset2 (dd : Byte) (rr : Byte)
  | brclr2 (dd : Byte) (rr : Byte)
  | brset3 (dd : Byte) (rr : Byte)
  | brclr3 (dd : Byte) (rr : Byte)
  | brset4 (dd : Byte) (rr : Byte)
  | brclr4 (dd : Byte) (rr : Byte)
  | brset5 (dd : Byte) (rr : Byte)
  | brclr5 (dd : Byte) (rr : Byte)
  | brset6 (dd : Byte) (rr : Byte)
  | brclr6 (dd : Byte) (rr : Byte)
  | brset7 (dd : Byte) (rr : Byte)
  | brclr7 (dd : Byte) (rr : Byte)
  -- column 0x1
  | bset0 (dd : Byte)
  | bclr0 (dd : Byte)
  | bset1 (dd : Byte)
  | bclr1 (dd : Byte)
  | bset2 (dd : Byte)
  | bclr2 (dd : Byte)
  | bset3 (dd : Byte)
  | bclr3 (dd : Byte)
  | bset4 (dd : Byte)
  | bclr4 (dd : Byte)
  | bset5 (dd : Byte)
  | bclr5 (dd : Byte)
  | bset6 (dd : Byte)
  | bclr6 (dd : Byte)
  | bset7 (dd : Byte)
  | bclr7 (dd : Byte)
  -- column 0x2
  | bra (rr : Byte)
  | brn (rr : Byte)
  | bhi (rr : Byte)
  | bls (rr : Byte)
  | bcc (rr : Byte)
  | bcs (rr : Byte)
  | bne (rr : Byte)
  | beq (rr : Byte)
  | bhcc (rr : Byte)
  | bhcs (rr : Byte)
  | bpl (rr : Byte)
  | bmi (rr : Byte)
  | bmc (rr : Byte)
  | bms (rr : Byte)
  -- column 0x3
  | negDir (dd : Byte)
  | comDir (dd : Byte)
  | lsrDir (dd : Byte)
  | rorDir (dd : Byte)
  | asrDir (dd : Byte)
  | lslDir (dd : Byte)
  | rolDir (dd : Byte)
  | decDir (dd : Byte)
  | incDir (dd : Byte)
  | tstDir (dd : Byte)
  | clrDir (dd : Byte)
  -- column 0x4
  | nega
  | mul
  | coma
  | lsra
  | rora
  | asra
  | lsla
  | rola
  | deca
  | inca
  | tsta
  | clra
  -- column 0x5
  | negx
  | comx
  | lsrx
  | rorx
  | asrx
  | lslx
  | rolx
  | decx
  | incx
  | tstx
  | clrx
  -- column 0x6
  | negIx1 (ff : Byte)
  | comIx1 (ff : Byte)
  | lsrIx1 (ff : Byte)
  | rorIx1 (ff : Byte)
  | asrIx1 (ff : Byte)
  | lslIx1 (ff : Byte)
  | rolIx1 (ff : Byte)
  | decIx1 (ff : Byte)
  | incIx1 (ff : Byte)
  | tstIx1 (ff : Byte)
  | clrIx1 (ff : Byte)
  -- column 0x7
  | negIx
  | comIx
  | lsrIx
  | rorIx
  | asrIx
  | lslIx
  | rolIx
  | decIx
  | incIx
  | tstIx
  | clrIx
  -- column 0x8
  | rti
  | rts
  | swi
  | stop
  | wait
  -- column 0x9
  | tax
  | clc
  | sec
  | cli
  | sei
  | rsp
  | txa
  -- column 0xA
  | subImm (ii : Byte)
  | cmpImm (ii : Byte)
  | sbcImm (ii : Byte)
  | cpxImm (ii : Byte)
  | andImm (ii : Byte)
  | ldaImm (ii : Byte)
  | eorImm (ii : Byte)
  | adcImm (ii : Byte)
  | oraImm (ii : Byte)
  | addImm (ii : Byte)
  | bsr (rr : Byte)
  | ldxImm (ii : Byte)
  -- column 0xB
  | subDir (dd : Byte)
  | cmpDir (dd : Byte)
  | sbcDir (dd : Byte)
  | cpxDir (dd : Byte)
  | andDir (dd : Byte)
  | ldaDir (dd : Byte)
  | staDir (dd : Byte)
  | eorDir (dd : Byte)
  | adcDir (dd : Byte)
  | oraDir (dd : Byte)
  | addDir (dd : Byte)
  | jmpDir (dd : Byte)
  | jsrDir (dd : Byte)
  | ldxDir (dd : Byte)
  | stxDir (dd : Byte)
  -- column 0xC
  | subExt (hhll : Addr)
  | cmpExt (hhll : Addr)
  | sbcExt (hhll : Addr)
  | cpxExt (hhll : Addr)
  | andExt (hhll : Addr)
  | ldaExt (hhll : Addr)
  | staExt (hhll : Addr)
  | eorExt (hhll : Addr)
  | adcExt (hhll : Addr)
  | oraExt (hhll : Addr)
  | addExt (hhll : Addr)
  | jmpExt (hhll : Addr)
  | jsrExt (hhll : Addr)
  | ldxExt (hhll : Addr)
  | stxExt (hhll : Addr)
  -- column 0xD
  | subIx2 (eeff : BitVec 16)
  | cmpIx2 (eeff : BitVec 16)
  | sbcIx2 (eeff : BitVec 16)
  | cpxIx2 (eeff : BitVec 16)
  | andIx2 (eeff : BitVec 16)
  | ldaIx2 (eeff : BitVec 16)
  | staIx2 (eeff : BitVec 16)
  | eorIx2 (eeff : BitVec 16)
  | adcIx2 (eeff : BitVec 16)
  | oraIx2 (eeff : BitVec 16)
  | addIx2 (eeff : BitVec 16)
  | jmpIx2 (eeff : BitVec 16)
  | jsrIx2 (eeff : BitVec 16)
  | ldxIx2 (eeff : BitVec 16)
  | stxIx2 (eeff : BitVec 16)
  -- column 0xE
  | subIx1 (ff : Byte)
  | cmpIx1 (ff : Byte)
  | sbcIx1 (ff : Byte)
  | cpxIx1 (ff : Byte)
  | andIx1 (ff : Byte)
  | ldaIx1 (ff : Byte)
  | staIx1 (ff : Byte)
  | eorIx1 (ff : Byte)
  | adcIx1 (ff : Byte)
  | oraIx1 (ff : Byte)
  | addIx1 (ff : Byte)
  | jmpIx1 (ff : Byte)
  | jsrIx1 (ff : Byte)
  | ldxIx1 (ff : Byte)
  | stxIx1 (ff : Byte)
  -- column 0xF
  | subIx
  | cmpIx
  | sbcIx
  | cpxIx
  | andIx
  | ldaIx
  | staIx
  | eorIx
  | adcIx
  | oraIx
  | addIx
  | jmpIx
  | jsrIx
  | ldxIx
  deriving DecidableEq, Repr

/-- The ten instruction formats (30_encoding.md R61). -/
inductive Format where
  | inh | imm | dir | ext | ix | ix1 | ix2 | rel | bsc | btb
  deriving DecidableEq, Repr

/-- An operand in memory, by its addressing mode (40_dispatch_addressing.md R88 to R92). -/
inductive AddrOperand where
  | dir (dd : Byte)
  | ext (hhll : Addr)
  | ix2 (eeff : BitVec 16)
  | ix1 (ff : Byte)
  | ix
  deriving DecidableEq, Repr

/-- The operand of a value-reading instruction (40_dispatch_addressing.md R95). -/
inductive ValueOperand where
  | imm (ii : Byte)
  | mem (o : AddrOperand)
  deriving DecidableEq, Repr

/-- The operand of a read-modify-write instruction: `a`, `x`, or memory in DIR, IX1, IX (40_dispatch_addressing.md R96). -/
inductive RmwOperand where
  | acc
  | index
  | dir (dd : Byte)
  | ix1 (ff : Byte)
  | ix
  deriving DecidableEq, Repr

/-- The value-reading mnemonics (40_dispatch_addressing.md R95). -/
inductive ValueOp where
  | add | adc | sub | sbc | and | ora | eor | lda | ldx | cmp | cpx
  deriving DecidableEq, Repr

/-- The read-modify-write mnemonics (40_dispatch_addressing.md R96). -/
inductive RmwOp where
  | neg | com | lsr | ror | asr | lsl | rol | dec | inc
  deriving DecidableEq, Repr

/-- The fourteen branches, by condition (48_branches.md R190). -/
inductive BranchOp where
  | bra | brn | bhi | bls | bcc | bcs | bne | beq | bhcc | bhcs | bpl | bmi | bmc | bms
  deriving DecidableEq, Repr

/-- The mnemonics that take no operand byte and name no operand (49_subroutine_interrupt_control.md, 41_arithmetic.md R104,
45_data_movement.md R154, R155). -/
inductive InherentOp where
  | mul | rti | rts | swi | stop | wait | tax | txa | clc | sec | cli | sei | rsp
  deriving DecidableEq, Repr

/-- The memory formats an address-taking mnemonic is encoded in (40_dispatch_addressing.md R95, R97). -/
inductive AddrMode where
  | dir | ext | ix2 | ix1 | ix
  deriving DecidableEq, Repr

/-- The formats of a value-reading mnemonic (40_dispatch_addressing.md R87, R95). -/
inductive ValueMode where
  | imm
  | mem (m : AddrMode)
  deriving DecidableEq, Repr

/-- The operands of a read-modify-write mnemonic: INH on `a` or `x`, or memory (40_dispatch_addressing.md R86, R96). -/
inductive RmwMode where
  | acc | index | dir | ix1 | ix
  deriving DecidableEq, Repr

/-- The formats of `stx`: there is none in IX (30_encoding.md R73, 40_dispatch_addressing.md R97). -/
inductive StxMode where
  | dir | ext | ix2 | ix1
  deriving DecidableEq, Repr

/-- A descriptor of `OPTAB`: a mnemonic in one of the formats its rule gives it (30_encoding.md R64, R66). The operand byte count is
that of the format (R64 (d)), and a bit form takes its bit number from the opcode byte (R64 (c)), so neither is repeated here. -/
inductive Descriptor where
  | value (op : ValueOp) (mode : ValueMode)
  | rmw (op : RmwOp) (mode : RmwMode)
  | tst (mode : RmwMode)
  | clr (mode : RmwMode)
  | sta (mode : AddrMode)
  | stx (mode : StxMode)
  | jmp (mode : AddrMode)
  | jsr (mode : AddrMode)
  | branch (op : BranchOp)
  | bsr
  | bset
  | bclr
  | brset
  | brclr
  | inherent (op : InherentOp)
  deriving DecidableEq, Repr

/-- One column of a decode table: entry `r` is the descriptor of the row `r`, `none` where there is none. -/
abbrev OpColumn := List (Option Descriptor)

/-- A decode table `OPTAB` (30_encoding.md R64), laid out as R65 lays out the default one: the column is the high nibble of the opcode
byte, the row its low nibble. -/
abbrev OpTable := List OpColumn

end Sys2Proof
end

