-- ==== Sys2Proof/Decode.lean ====
section
/-! DEFINITION. The decoder under any decode table `OPTAB` (30_encoding.md R64), the default table (R65; log 4) and the encoder for
it, the instructions grouped by operand form, the format and length of an instruction, and the host's view of one
opcode-table word. -/

namespace Sys2Proof

/-- The bytes a format's operand costs beyond the opcode byte (30_encoding.md R61). -/
def Format.operandBytes : Format → Nat
  | .inh => 0
  | .imm => 1
  | .dir => 1
  | .ext => 2
  | .ix => 0
  | .ix1 => 1
  | .ix2 => 2
  | .rel => 1
  | .bsc => 1
  | .btb => 2

/-- `len = 1 + (number of operand bytes)` (30_encoding.md R60). -/
def Format.len (f : Format) : Nat := 1 + f.operandBytes

/-- A two-byte operand, high byte first (20_memory.md R44). -/
def joinBytes (hi lo : Byte) : BitVec 16 := BitVec.ofNat 16 (hi.toNat * 256 + lo.toNat)

/-- Bits 15 to 8 of an address. -/
def highByte (v : BitVec 16) : Byte := v.extractLsb' 8 8

/-- Bits 7 to 0 of an address. -/
def lowByte (v : BitVec 16) : Byte := v.extractLsb' 0 8

/-! ### The instructions by operand form, so that a statement can name all the forms of a mnemonic at once -/

/-- The six forms of each value-reading mnemonic. -/
def Instr.ofValue : ValueOp → ValueOperand → Instr
  | .add, .imm ii => .addImm ii
  | .add, .mem (.dir dd) => .addDir dd
  | .add, .mem (.ext hhll) => .addExt hhll
  | .add, .mem (.ix2 eeff) => .addIx2 eeff
  | .add, .mem (.ix1 ff) => .addIx1 ff
  | .add, .mem .ix => .addIx
  | .adc, .imm ii => .adcImm ii
  | .adc, .mem (.dir dd) => .adcDir dd
  | .adc, .mem (.ext hhll) => .adcExt hhll
  | .adc, .mem (.ix2 eeff) => .adcIx2 eeff
  | .adc, .mem (.ix1 ff) => .adcIx1 ff
  | .adc, .mem .ix => .adcIx
  | .sub, .imm ii => .subImm ii
  | .sub, .mem (.dir dd) => .subDir dd
  | .sub, .mem (.ext hhll) => .subExt hhll
  | .sub, .mem (.ix2 eeff) => .subIx2 eeff
  | .sub, .mem (.ix1 ff) => .subIx1 ff
  | .sub, .mem .ix => .subIx
  | .sbc, .imm ii => .sbcImm ii
  | .sbc, .mem (.dir dd) => .sbcDir dd
  | .sbc, .mem (.ext hhll) => .sbcExt hhll
  | .sbc, .mem (.ix2 eeff) => .sbcIx2 eeff
  | .sbc, .mem (.ix1 ff) => .sbcIx1 ff
  | .sbc, .mem .ix => .sbcIx
  | .and, .imm ii => .andImm ii
  | .and, .mem (.dir dd) => .andDir dd
  | .and, .mem (.ext hhll) => .andExt hhll
  | .and, .mem (.ix2 eeff) => .andIx2 eeff
  | .and, .mem (.ix1 ff) => .andIx1 ff
  | .and, .mem .ix => .andIx
  | .ora, .imm ii => .oraImm ii
  | .ora, .mem (.dir dd) => .oraDir dd
  | .ora, .mem (.ext hhll) => .oraExt hhll
  | .ora, .mem (.ix2 eeff) => .oraIx2 eeff
  | .ora, .mem (.ix1 ff) => .oraIx1 ff
  | .ora, .mem .ix => .oraIx
  | .eor, .imm ii => .eorImm ii
  | .eor, .mem (.dir dd) => .eorDir dd
  | .eor, .mem (.ext hhll) => .eorExt hhll
  | .eor, .mem (.ix2 eeff) => .eorIx2 eeff
  | .eor, .mem (.ix1 ff) => .eorIx1 ff
  | .eor, .mem .ix => .eorIx
  | .lda, .imm ii => .ldaImm ii
  | .lda, .mem (.dir dd) => .ldaDir dd
  | .lda, .mem (.ext hhll) => .ldaExt hhll
  | .lda, .mem (.ix2 eeff) => .ldaIx2 eeff
  | .lda, .mem (.ix1 ff) => .ldaIx1 ff
  | .lda, .mem .ix => .ldaIx
  | .ldx, .imm ii => .ldxImm ii
  | .ldx, .mem (.dir dd) => .ldxDir dd
  | .ldx, .mem (.ext hhll) => .ldxExt hhll
  | .ldx, .mem (.ix2 eeff) => .ldxIx2 eeff
  | .ldx, .mem (.ix1 ff) => .ldxIx1 ff
  | .ldx, .mem .ix => .ldxIx
  | .cmp, .imm ii => .cmpImm ii
  | .cmp, .mem (.dir dd) => .cmpDir dd
  | .cmp, .mem (.ext hhll) => .cmpExt hhll
  | .cmp, .mem (.ix2 eeff) => .cmpIx2 eeff
  | .cmp, .mem (.ix1 ff) => .cmpIx1 ff
  | .cmp, .mem .ix => .cmpIx
  | .cpx, .imm ii => .cpxImm ii
  | .cpx, .mem (.dir dd) => .cpxDir dd
  | .cpx, .mem (.ext hhll) => .cpxExt hhll
  | .cpx, .mem (.ix2 eeff) => .cpxIx2 eeff
  | .cpx, .mem (.ix1 ff) => .cpxIx1 ff
  | .cpx, .mem .ix => .cpxIx

/-- The five forms of each read-modify-write mnemonic: `nega`, `negx`, `neg` in DIR, IX1, IX, and so on. -/
def Instr.ofRmw : RmwOp → RmwOperand → Instr
  | .neg, .acc => .nega
  | .neg, .index => .negx
  | .neg, .dir dd => .negDir dd
  | .neg, .ix1 ff => .negIx1 ff
  | .neg, .ix => .negIx
  | .com, .acc => .coma
  | .com, .index => .comx
  | .com, .dir dd => .comDir dd
  | .com, .ix1 ff => .comIx1 ff
  | .com, .ix => .comIx
  | .lsr, .acc => .lsra
  | .lsr, .index => .lsrx
  | .lsr, .dir dd => .lsrDir dd
  | .lsr, .ix1 ff => .lsrIx1 ff
  | .lsr, .ix => .lsrIx
  | .ror, .acc => .rora
  | .ror, .index => .rorx
  | .ror, .dir dd => .rorDir dd
  | .ror, .ix1 ff => .rorIx1 ff
  | .ror, .ix => .rorIx
  | .asr, .acc => .asra
  | .asr, .index => .asrx
  | .asr, .dir dd => .asrDir dd
  | .asr, .ix1 ff => .asrIx1 ff
  | .asr, .ix => .asrIx
  | .lsl, .acc => .lsla
  | .lsl, .index => .lslx
  | .lsl, .dir dd => .lslDir dd
  | .lsl, .ix1 ff => .lslIx1 ff
  | .lsl, .ix => .lslIx
  | .rol, .acc => .rola
  | .rol, .index => .rolx
  | .rol, .dir dd => .rolDir dd
  | .rol, .ix1 ff => .rolIx1 ff
  | .rol, .ix => .rolIx
  | .dec, .acc => .deca
  | .dec, .index => .decx
  | .dec, .dir dd => .decDir dd
  | .dec, .ix1 ff => .decIx1 ff
  | .dec, .ix => .decIx
  | .inc, .acc => .inca
  | .inc, .index => .incx
  | .inc, .dir dd => .incDir dd
  | .inc, .ix1 ff => .incIx1 ff
  | .inc, .ix => .incIx

/-- The five forms of `tst`: `tsta`, `tstx`, `tst` in DIR, IX1, IX. -/
def Instr.ofTst : RmwOperand → Instr
  | .acc => .tsta
  | .index => .tstx
  | .dir dd => .tstDir dd
  | .ix1 ff => .tstIx1 ff
  | .ix => .tstIx

/-- The five forms of `clr`: `clra`, `clrx`, `clr` in DIR, IX1, IX. -/
def Instr.ofClr : RmwOperand → Instr
  | .acc => .clra
  | .index => .clrx
  | .dir dd => .clrDir dd
  | .ix1 ff => .clrIx1 ff
  | .ix => .clrIx

/-- The five forms of `sta`. -/
def Instr.ofSta : AddrOperand → Instr
  | .dir dd => .staDir dd
  | .ext hhll => .staExt hhll
  | .ix2 eeff => .staIx2 eeff
  | .ix1 ff => .staIx1 ff
  | .ix => .staIx

/-- The five forms of `jmp`. -/
def Instr.ofJmp : AddrOperand → Instr
  | .dir dd => .jmpDir dd
  | .ext hhll => .jmpExt hhll
  | .ix2 eeff => .jmpIx2 eeff
  | .ix1 ff => .jmpIx1 ff
  | .ix => .jmpIx

/-- The five forms of `jsr`. -/
def Instr.ofJsr : AddrOperand → Instr
  | .dir dd => .jsrDir dd
  | .ext hhll => .jsrExt hhll
  | .ix2 eeff => .jsrIx2 eeff
  | .ix1 ff => .jsrIx1 ff
  | .ix => .jsrIx

/-- The four forms of `stx`; there is none in IX, `0xFF` being absent from the table (30_encoding.md R73). -/
def Instr.ofStx : AddrOperand → Option Instr
  | .dir dd => some (.stxDir dd)
  | .ext hhll => some (.stxExt hhll)
  | .ix2 eeff => some (.stxIx2 eeff)
  | .ix1 ff => some (.stxIx1 ff)
  | .ix => none

/-- The fourteen branches (48_branches.md R191 to R204). -/
def Instr.ofBranch : BranchOp → Byte → Instr
  | .bra, rr => .bra rr
  | .brn, rr => .brn rr
  | .bhi, rr => .bhi rr
  | .bls, rr => .bls rr
  | .bcc, rr => .bcc rr
  | .bcs, rr => .bcs rr
  | .bne, rr => .bne rr
  | .beq, rr => .beq rr
  | .bhcc, rr => .bhcc rr
  | .bhcs, rr => .bhcs rr
  | .bpl, rr => .bpl rr
  | .bmi, rr => .bmi rr
  | .bmc, rr => .bmc rr
  | .bms, rr => .bms rr

/-- `bset n` for bit `n` = 0 to 7 (47_bit_ops.md R180). -/
def Instr.ofBset (n : Fin 8) (dd : Byte) : Instr :=
  match n with
  | 0 => .bset0 dd
  | 1 => .bset1 dd
  | 2 => .bset2 dd
  | 3 => .bset3 dd
  | 4 => .bset4 dd
  | 5 => .bset5 dd
  | 6 => .bset6 dd
  | 7 => .bset7 dd

/-- `bclr n` for bit `n` = 0 to 7 (47_bit_ops.md R181). -/
def Instr.ofBclr (n : Fin 8) (dd : Byte) : Instr :=
  match n with
  | 0 => .bclr0 dd
  | 1 => .bclr1 dd
  | 2 => .bclr2 dd
  | 3 => .bclr3 dd
  | 4 => .bclr4 dd
  | 5 => .bclr5 dd
  | 6 => .bclr6 dd
  | 7 => .bclr7 dd

/-- `brset n` for bit `n` = 0 to 7 (47_bit_ops.md R182). -/
def Instr.ofBrset (n : Fin 8) (dd rr : Byte) : Instr :=
  match n with
  | 0 => .brset0 dd rr
  | 1 => .brset1 dd rr
  | 2 => .brset2 dd rr
  | 3 => .brset3 dd rr
  | 4 => .brset4 dd rr
  | 5 => .brset5 dd rr
  | 6 => .brset6 dd rr
  | 7 => .brset7 dd rr

/-- `brclr n` for bit `n` = 0 to 7 (47_bit_ops.md R183). -/
def Instr.ofBrclr (n : Fin 8) (dd rr : Byte) : Instr :=
  match n with
  | 0 => .brclr0 dd rr
  | 1 => .brclr1 dd rr
  | 2 => .brclr2 dd rr
  | 3 => .brclr3 dd rr
  | 4 => .brclr4 dd rr
  | 5 => .brclr5 dd rr
  | 6 => .brclr6 dd rr
  | 7 => .brclr7 dd rr

/-! ### The decode table -/

/-- `OPTAB(opcode)` (30_encoding.md R64). -/
def OpTable.lookup (t : OpTable) (opcode : Byte) : Option Descriptor :=
  (t.getD (opcode.toNat / 16) []).getD (opcode.toNat % 16) none

/-- The format of an address-taking mnemonic's mode. -/
def AddrMode.format : AddrMode → Format
  | .dir => .dir
  | .ext => .ext
  | .ix2 => .ix2
  | .ix1 => .ix1
  | .ix => .ix

/-- The format of a value-reading mnemonic's mode. -/
def ValueMode.format : ValueMode → Format
  | .imm => .imm
  | .mem m => m.format

/-- The format of a read-modify-write mnemonic's mode. -/
def RmwMode.format : RmwMode → Format
  | .acc => .inh
  | .index => .inh
  | .dir => .dir
  | .ix1 => .ix1
  | .ix => .ix

/-- The format of a mode of `stx`. -/
def StxMode.format : StxMode → Format
  | .dir => .dir
  | .ext => .ext
  | .ix2 => .ix2
  | .ix1 => .ix1

/-- The format a descriptor carries (30_encoding.md R64). -/
def Descriptor.format : Descriptor → Format
  | .value _ m => m.format
  | .rmw _ m => m.format
  | .tst m => m.format
  | .clr m => m.format
  | .sta m => m.format
  | .stx m => m.format
  | .jmp m => m.format
  | .jsr m => m.format
  | .branch _ => .rel
  | .bsr => .rel
  | .bset => .bsc
  | .bclr => .bsc
  | .brset => .btb
  | .brclr => .btb
  | .inherent _ => .inh

/-- `bitno = opcode[3:1]` (40_dispatch_addressing.md R94). -/
def bitNumber (opcode : Byte) : Fin 8 := Fin.ofNat 8 (opcode.toNat / 2)

/-- Whether a descriptor is one of the four bit forms, whose bit number stands in the opcode byte (30_encoding.md R64 (c)). -/
def Descriptor.hasBitNumber (d : Descriptor) : Bool := d.format == .bsc || d.format == .btb

/-! ### From a descriptor and operand bytes to an instruction -/

/-- What a descriptor still needs: no operand byte, one, two separate ones (`1 1` in 30_encoding.md R61), or one big-endian pair
(`2`). -/
inductive Entry where
  | none (i : Instr)
  | one (mk : Byte → Instr)
  | two (mk : Byte → Byte → Instr)
  | word (mk : BitVec 16 → Instr)

/-- The operand bytes an entry takes. -/
def Entry.operandBytes : Entry → Nat
  | .none _ => 0
  | .one _ => 1
  | .two _ => 2
  | .word _ => 2

/-- An address operand's bytes (30_encoding.md R62). -/
def AddrMode.entry (mk : AddrOperand → Instr) : AddrMode → Entry
  | .dir => .one fun dd => mk (.dir dd)
  | .ext => .word fun hhll => mk (.ext hhll)
  | .ix2 => .word fun eeff => mk (.ix2 eeff)
  | .ix1 => .one fun ff => mk (.ix1 ff)
  | .ix => .none (mk .ix)

/-- A value operand's bytes (30_encoding.md R62). -/
def ValueMode.entry (mk : ValueOperand → Instr) : ValueMode → Entry
  | .imm => .one fun ii => mk (.imm ii)
  | .mem m => m.entry fun o => mk (.mem o)

/-- A read-modify-write operand's bytes (30_encoding.md R62). -/
def RmwMode.entry (mk : RmwOperand → Instr) : RmwMode → Entry
  | .acc => .none (mk .acc)
  | .index => .none (mk .index)
  | .dir => .one fun dd => mk (.dir dd)
  | .ix1 => .one fun ff => mk (.ix1 ff)
  | .ix => .none (mk .ix)

/-- The bytes of an `stx` (30_encoding.md R62). -/
def StxMode.entry : StxMode → Entry
  | .dir => .one .stxDir
  | .ext => .word .stxExt
  | .ix2 => .word .stxIx2
  | .ix1 => .one .stxIx1

/-- The instruction of an inherent mnemonic. -/
def InherentOp.instr : InherentOp → Instr
  | .mul => .mul
  | .rti => .rti
  | .rts => .rts
  | .swi => .swi
  | .stop => .stop
  | .wait => .wait
  | .tax => .tax
  | .txa => .txa
  | .clc => .clc
  | .sec => .sec
  | .cli => .cli
  | .sei => .sei
  | .rsp => .rsp

/-- What a descriptor found at an opcode byte still needs (40_dispatch_addressing.md R80 steps 2 and 3). -/
def Descriptor.entry (opcode : Byte) : Descriptor → Entry
  | .value op m => m.entry (.ofValue op)
  | .rmw op m => m.entry (.ofRmw op)
  | .tst m => m.entry .ofTst
  | .clr m => m.entry .ofClr
  | .sta m => m.entry .ofSta
  | .stx m => m.entry
  | .jmp m => m.entry .ofJmp
  | .jsr m => m.entry .ofJsr
  | .branch op => .one (.ofBranch op)
  | .bsr => .one .bsr
  | .bset => .one (.ofBset (bitNumber opcode))
  | .bclr => .one (.ofBclr (bitNumber opcode))
  | .brset => .two (.ofBrset (bitNumber opcode))
  | .brclr => .two (.ofBrclr (bitNumber opcode))
  | .inherent op => .none op.instr

/-- Why the decoder rejects a byte sequence. `unknownOpcode`: the byte has no entry in the table (30_encoding.md R69). `noBytes` and
`truncated`: the list given to the decoder is too short for an opcode, or for the operand of this opcode; memory always
delivers the bytes, so `step` never meets them. -/
inductive DecodeError where
  | noBytes
  | unknownOpcode (opcode : Byte)
  | truncated (opcode : Byte)
  deriving DecidableEq, Repr

/-- Fills an entry's operand from the bytes after the opcode (30_encoding.md R62) and returns the bytes left over. -/
def Entry.build (opcode : Byte) : Entry → List Byte → Except DecodeError (Instr × List Byte)
  | .none i, rest => .ok (i, rest)
  | .one mk, b :: rest => .ok (mk b, rest)
  | .two mk, b :: c :: rest => .ok (mk b c, rest)
  | .word mk, b :: c :: rest => .ok (mk (joinBytes b c), rest)
  | .one _, [] => .error (.truncated opcode)
  | .two _, _ => .error (.truncated opcode)
  | .word _, _ => .error (.truncated opcode)

/-- Decodes the first instruction of a byte sequence under the table `t` (30_encoding.md R60, R62, R64, R68;
40_dispatch_addressing.md R81). -/
def decode (t : OpTable) : List Byte → Except DecodeError (Instr × List Byte)
  | [] => .error .noBytes
  | opcode :: rest =>
    match t.lookup opcode with
    | none => .error (.unknownOpcode opcode)
    | some d => (d.entry opcode).build opcode rest

/-! ### The default table -/

/-- Column `0x0` of the default opcode map, by low nibble: bit test and branch, bits 0 to 7 (30_encoding.md R65). -/
def column0 : OpColumn :=
  [some .brset, some .brclr, some .brset, some .brclr,
   some .brset, some .brclr, some .brset, some .brclr,
   some .brset, some .brclr, some .brset, some .brclr,
   some .brset, some .brclr, some .brset, some .brclr]

/-- Column `0x1` of the default opcode map, by low nibble: bit set and clear, bits 0 to 7 (30_encoding.md R65). -/
def column1 : OpColumn :=
  [some .bset, some .bclr, some .bset, some .bclr,
   some .bset, some .bclr, some .bset, some .bclr,
   some .bset, some .bclr, some .bset, some .bclr,
   some .bset, some .bclr, some .bset, some .bclr]

/-- Column `0x2` of the default opcode map, by low nibble: branches (30_encoding.md R65). -/
def column2 : OpColumn :=
  [some (.branch .bra), some (.branch .brn), some (.branch .bhi), some (.branch .bls),
   some (.branch .bcc), some (.branch .bcs), some (.branch .bne), some (.branch .beq),
   some (.branch .bhcc), some (.branch .bhcs), some (.branch .bpl), some (.branch .bmi),
   some (.branch .bmc), some (.branch .bms), none, none]

/-- Column `0x3` of the default opcode map, by low nibble: read-modify-write, DIR (30_encoding.md R65). -/
def column3 : OpColumn :=
  [some (.rmw .neg .dir), none, none, some (.rmw .com .dir),
   some (.rmw .lsr .dir), none, some (.rmw .ror .dir), some (.rmw .asr .dir),
   some (.rmw .lsl .dir), some (.rmw .rol .dir), some (.rmw .dec .dir), none,
   some (.rmw .inc .dir), some (.tst .dir), none, some (.clr .dir)]

/-- Column `0x4` of the default opcode map, by low nibble: read-modify-write on `a`; `mul` (30_encoding.md R65). -/
def column4 : OpColumn :=
  [some (.rmw .neg .acc), none, some (.inherent .mul), some (.rmw .com .acc),
   some (.rmw .lsr .acc), none, some (.rmw .ror .acc), some (.rmw .asr .acc),
   some (.rmw .lsl .acc), some (.rmw .rol .acc), some (.rmw .dec .acc), none,
   some (.rmw .inc .acc), some (.tst .acc), none, some (.clr .acc)]

/-- Column `0x5` of the default opcode map, by low nibble: read-modify-write on `x` (30_encoding.md R65). -/
def column5 : OpColumn :=
  [some (.rmw .neg .index), none, none, some (.rmw .com .index),
   some (.rmw .lsr .index), none, some (.rmw .ror .index), some (.rmw .asr .index),
   some (.rmw .lsl .index), some (.rmw .rol .index), some (.rmw .dec .index), none,
   some (.rmw .inc .index), some (.tst .index), none, some (.clr .index)]

/-- Column `0x6` of the default opcode map, by low nibble: read-modify-write, IX1 (30_encoding.md R65). -/
def column6 : OpColumn :=
  [some (.rmw .neg .ix1), none, none, some (.rmw .com .ix1),
   some (.rmw .lsr .ix1), none, some (.rmw .ror .ix1), some (.rmw .asr .ix1),
   some (.rmw .lsl .ix1), some (.rmw .rol .ix1), some (.rmw .dec .ix1), none,
   some (.rmw .inc .ix1), some (.tst .ix1), none, some (.clr .ix1)]

/-- Column `0x7` of the default opcode map, by low nibble: read-modify-write, IX (30_encoding.md R65). -/
def column7 : OpColumn :=
  [some (.rmw .neg .ix), none, none, some (.rmw .com .ix),
   some (.rmw .lsr .ix), none, some (.rmw .ror .ix), some (.rmw .asr .ix),
   some (.rmw .lsl .ix), some (.rmw .rol .ix), some (.rmw .dec .ix), none,
   some (.rmw .inc .ix), some (.tst .ix), none, some (.clr .ix)]

/-- Column `0x8` of the default opcode map, by low nibble: returns, `swi`, `stop`, `wait` (30_encoding.md R65). -/
def column8 : OpColumn :=
  [some (.inherent .rti), some (.inherent .rts), none, some (.inherent .swi),
   none, none, none, none,
   none, none, none, none,
   none, none, some (.inherent .stop), some (.inherent .wait)]

/-- Column `0x9` of the default opcode map, by low nibble: register and flag control (30_encoding.md R65). -/
def column9 : OpColumn :=
  [none, none, none, none,
   none, none, none, some (.inherent .tax),
   some (.inherent .clc), some (.inherent .sec), some (.inherent .cli), some (.inherent .sei),
   some (.inherent .rsp), none, none, some (.inherent .txa)]

/-- Column `0xA` of the default opcode map, by low nibble: register/memory, IMM; `bsr` (30_encoding.md R65). -/
def columnA : OpColumn :=
  [some (.value .sub .imm), some (.value .cmp .imm), some (.value .sbc .imm), some (.value .cpx .imm),
   some (.value .and .imm), none, some (.value .lda .imm), none,
   some (.value .eor .imm), some (.value .adc .imm), some (.value .ora .imm), some (.value .add .imm),
   none, some .bsr, some (.value .ldx .imm), none]

/-- Column `0xB` of the default opcode map, by low nibble: register/memory, DIR (30_encoding.md R65). -/
def columnB : OpColumn :=
  [some (.value .sub (.mem .dir)), some (.value .cmp (.mem .dir)), some (.value .sbc (.mem .dir)), some (.value .cpx (.mem .dir)),
   some (.value .and (.mem .dir)), none, some (.value .lda (.mem .dir)), some (.sta .dir),
   some (.value .eor (.mem .dir)), some (.value .adc (.mem .dir)), some (.value .ora (.mem .dir)), some (.value .add (.mem .dir)),
   some (.jmp .dir), some (.jsr .dir), some (.value .ldx (.mem .dir)), some (.stx .dir)]

/-- Column `0xC` of the default opcode map, by low nibble: register/memory, EXT (30_encoding.md R65). -/
def columnC : OpColumn :=
  [some (.value .sub (.mem .ext)), some (.value .cmp (.mem .ext)), some (.value .sbc (.mem .ext)), some (.value .cpx (.mem .ext)),
   some (.value .and (.mem .ext)), none, some (.value .lda (.mem .ext)), some (.sta .ext),
   some (.value .eor (.mem .ext)), some (.value .adc (.mem .ext)), some (.value .ora (.mem .ext)), some (.value .add (.mem .ext)),
   some (.jmp .ext), some (.jsr .ext), some (.value .ldx (.mem .ext)), some (.stx .ext)]

/-- Column `0xD` of the default opcode map, by low nibble: register/memory, IX2 (30_encoding.md R65). -/
def columnD : OpColumn :=
  [some (.value .sub (.mem .ix2)), some (.value .cmp (.mem .ix2)), some (.value .sbc (.mem .ix2)), some (.value .cpx (.mem .ix2)),
   some (.value .and (.mem .ix2)), none, some (.value .lda (.mem .ix2)), some (.sta .ix2),
   some (.value .eor (.mem .ix2)), some (.value .adc (.mem .ix2)), some (.value .ora (.mem .ix2)), some (.value .add (.mem .ix2)),
   some (.jmp .ix2), some (.jsr .ix2), some (.value .ldx (.mem .ix2)), some (.stx .ix2)]

/-- Column `0xE` of the default opcode map, by low nibble: register/memory, IX1 (30_encoding.md R65). -/
def columnE : OpColumn :=
  [some (.value .sub (.mem .ix1)), some (.value .cmp (.mem .ix1)), some (.value .sbc (.mem .ix1)), some (.value .cpx (.mem .ix1)),
   some (.value .and (.mem .ix1)), none, some (.value .lda (.mem .ix1)), some (.sta .ix1),
   some (.value .eor (.mem .ix1)), some (.value .adc (.mem .ix1)), some (.value .ora (.mem .ix1)), some (.value .add (.mem .ix1)),
   some (.jmp .ix1), some (.jsr .ix1), some (.value .ldx (.mem .ix1)), some (.stx .ix1)]

/-- Column `0xF` of the default opcode map, by low nibble: register/memory, IX (30_encoding.md R65). -/
def columnF : OpColumn :=
  [some (.value .sub (.mem .ix)), some (.value .cmp (.mem .ix)), some (.value .sbc (.mem .ix)), some (.value .cpx (.mem .ix)),
   some (.value .and (.mem .ix)), none, some (.value .lda (.mem .ix)), some (.sta .ix),
   some (.value .eor (.mem .ix)), some (.value .adc (.mem .ix)), some (.value .ora (.mem .ix)), some (.value .add (.mem .ix)),
   some (.jmp .ix), some (.jsr .ix), some (.value .ldx (.mem .ix)), none]

/-- The default content of `OPTAB` (30_encoding.md R64, R65; log 4), the columns in order; `none` for the 56 bytes of R69. -/
def defaultOptab : OpTable :=
  [column0, column1, column2, column3, column4, column5, column6, column7,
   column8, column9, columnA, columnB, columnC, columnD, columnE, columnF]

/-- The bytes of an instruction under the default table, opcode first (30_encoding.md R61, R65). The operand bytes, all but the
first, are the same under any table. -/
def encode : Instr → List Byte
  | .brset0 dd rr => [0x00, dd, rr]
  | .brclr0 dd rr => [0x01, dd, rr]
  | .brset1 dd rr => [0x02, dd, rr]
  | .brclr1 dd rr => [0x03, dd, rr]
  | .brset2 dd rr => [0x04, dd, rr]
  | .brclr2 dd rr => [0x05, dd, rr]
  | .brset3 dd rr => [0x06, dd, rr]
  | .brclr3 dd rr => [0x07, dd, rr]
  | .brset4 dd rr => [0x08, dd, rr]
  | .brclr4 dd rr => [0x09, dd, rr]
  | .brset5 dd rr => [0x0A, dd, rr]
  | .brclr5 dd rr => [0x0B, dd, rr]
  | .brset6 dd rr => [0x0C, dd, rr]
  | .brclr6 dd rr => [0x0D, dd, rr]
  | .brset7 dd rr => [0x0E, dd, rr]
  | .brclr7 dd rr => [0x0F, dd, rr]
  | .bset0 dd => [0x10, dd]
  | .bclr0 dd => [0x11, dd]
  | .bset1 dd => [0x12, dd]
  | .bclr1 dd => [0x13, dd]
  | .bset2 dd => [0x14, dd]
  | .bclr2 dd => [0x15, dd]
  | .bset3 dd => [0x16, dd]
  | .bclr3 dd => [0x17, dd]
  | .bset4 dd => [0x18, dd]
  | .bclr4 dd => [0x19, dd]
  | .bset5 dd => [0x1A, dd]
  | .bclr5 dd => [0x1B, dd]
  | .bset6 dd => [0x1C, dd]
  | .bclr6 dd => [0x1D, dd]
  | .bset7 dd => [0x1E, dd]
  | .bclr7 dd => [0x1F, dd]
  | .bra rr => [0x20, rr]
  | .brn rr => [0x21, rr]
  | .bhi rr => [0x22, rr]
  | .bls rr => [0x23, rr]
  | .bcc rr => [0x24, rr]
  | .bcs rr => [0x25, rr]
  | .bne rr => [0x26, rr]
  | .beq rr => [0x27, rr]
  | .bhcc rr => [0x28, rr]
  | .bhcs rr => [0x29, rr]
  | .bpl rr => [0x2A, rr]
  | .bmi rr => [0x2B, rr]
  | .bmc rr => [0x2C, rr]
  | .bms rr => [0x2D, rr]
  | .negDir dd => [0x30, dd]
  | .comDir dd => [0x33, dd]
  | .lsrDir dd => [0x34, dd]
  | .rorDir dd => [0x36, dd]
  | .asrDir dd => [0x37, dd]
  | .lslDir dd => [0x38, dd]
  | .rolDir dd => [0x39, dd]
  | .decDir dd => [0x3A, dd]
  | .incDir dd => [0x3C, dd]
  | .tstDir dd => [0x3D, dd]
  | .clrDir dd => [0x3F, dd]
  | .nega => [0x40]
  | .mul => [0x42]
  | .coma => [0x43]
  | .lsra => [0x44]
  | .rora => [0x46]
  | .asra => [0x47]
  | .lsla => [0x48]
  | .rola => [0x49]
  | .deca => [0x4A]
  | .inca => [0x4C]
  | .tsta => [0x4D]
  | .clra => [0x4F]
  | .negx => [0x50]
  | .comx => [0x53]
  | .lsrx => [0x54]
  | .rorx => [0x56]
  | .asrx => [0x57]
  | .lslx => [0x58]
  | .rolx => [0x59]
  | .decx => [0x5A]
  | .incx => [0x5C]
  | .tstx => [0x5D]
  | .clrx => [0x5F]
  | .negIx1 ff => [0x60, ff]
  | .comIx1 ff => [0x63, ff]
  | .lsrIx1 ff => [0x64, ff]
  | .rorIx1 ff => [0x66, ff]
  | .asrIx1 ff => [0x67, ff]
  | .lslIx1 ff => [0x68, ff]
  | .rolIx1 ff => [0x69, ff]
  | .decIx1 ff => [0x6A, ff]
  | .incIx1 ff => [0x6C, ff]
  | .tstIx1 ff => [0x6D, ff]
  | .clrIx1 ff => [0x6F, ff]
  | .negIx => [0x70]
  | .comIx => [0x73]
  | .lsrIx => [0x74]
  | .rorIx => [0x76]
  | .asrIx => [0x77]
  | .lslIx => [0x78]
  | .rolIx => [0x79]
  | .decIx => [0x7A]
  | .incIx => [0x7C]
  | .tstIx => [0x7D]
  | .clrIx => [0x7F]
  | .rti => [0x80]
  | .rts => [0x81]
  | .swi => [0x83]
  | .stop => [0x8E]
  | .wait => [0x8F]
  | .tax => [0x97]
  | .clc => [0x98]
  | .sec => [0x99]
  | .cli => [0x9A]
  | .sei => [0x9B]
  | .rsp => [0x9C]
  | .txa => [0x9F]
  | .subImm ii => [0xA0, ii]
  | .cmpImm ii => [0xA1, ii]
  | .sbcImm ii => [0xA2, ii]
  | .cpxImm ii => [0xA3, ii]
  | .andImm ii => [0xA4, ii]
  | .ldaImm ii => [0xA6, ii]
  | .eorImm ii => [0xA8, ii]
  | .adcImm ii => [0xA9, ii]
  | .oraImm ii => [0xAA, ii]
  | .addImm ii => [0xAB, ii]
  | .bsr rr => [0xAD, rr]
  | .ldxImm ii => [0xAE, ii]
  | .subDir dd => [0xB0, dd]
  | .cmpDir dd => [0xB1, dd]
  | .sbcDir dd => [0xB2, dd]
  | .cpxDir dd => [0xB3, dd]
  | .andDir dd => [0xB4, dd]
  | .ldaDir dd => [0xB6, dd]
  | .staDir dd => [0xB7, dd]
  | .eorDir dd => [0xB8, dd]
  | .adcDir dd => [0xB9, dd]
  | .oraDir dd => [0xBA, dd]
  | .addDir dd => [0xBB, dd]
  | .jmpDir dd => [0xBC, dd]
  | .jsrDir dd => [0xBD, dd]
  | .ldxDir dd => [0xBE, dd]
  | .stxDir dd => [0xBF, dd]
  | .subExt hhll => [0xC0, highByte hhll, lowByte hhll]
  | .cmpExt hhll => [0xC1, highByte hhll, lowByte hhll]
  | .sbcExt hhll => [0xC2, highByte hhll, lowByte hhll]
  | .cpxExt hhll => [0xC3, highByte hhll, lowByte hhll]
  | .andExt hhll => [0xC4, highByte hhll, lowByte hhll]
  | .ldaExt hhll => [0xC6, highByte hhll, lowByte hhll]
  | .staExt hhll => [0xC7, highByte hhll, lowByte hhll]
  | .eorExt hhll => [0xC8, highByte hhll, lowByte hhll]
  | .adcExt hhll => [0xC9, highByte hhll, lowByte hhll]
  | .oraExt hhll => [0xCA, highByte hhll, lowByte hhll]
  | .addExt hhll => [0xCB, highByte hhll, lowByte hhll]
  | .jmpExt hhll => [0xCC, highByte hhll, lowByte hhll]
  | .jsrExt hhll => [0xCD, highByte hhll, lowByte hhll]
  | .ldxExt hhll => [0xCE, highByte hhll, lowByte hhll]
  | .stxExt hhll => [0xCF, highByte hhll, lowByte hhll]
  | .subIx2 eeff => [0xD0, highByte eeff, lowByte eeff]
  | .cmpIx2 eeff => [0xD1, highByte eeff, lowByte eeff]
  | .sbcIx2 eeff => [0xD2, highByte eeff, lowByte eeff]
  | .cpxIx2 eeff => [0xD3, highByte eeff, lowByte eeff]
  | .andIx2 eeff => [0xD4, highByte eeff, lowByte eeff]
  | .ldaIx2 eeff => [0xD6, highByte eeff, lowByte eeff]
  | .staIx2 eeff => [0xD7, highByte eeff, lowByte eeff]
  | .eorIx2 eeff => [0xD8, highByte eeff, lowByte eeff]
  | .adcIx2 eeff => [0xD9, highByte eeff, lowByte eeff]
  | .oraIx2 eeff => [0xDA, highByte eeff, lowByte eeff]
  | .addIx2 eeff => [0xDB, highByte eeff, lowByte eeff]
  | .jmpIx2 eeff => [0xDC, highByte eeff, lowByte eeff]
  | .jsrIx2 eeff => [0xDD, highByte eeff, lowByte eeff]
  | .ldxIx2 eeff => [0xDE, highByte eeff, lowByte eeff]
  | .stxIx2 eeff => [0xDF, highByte eeff, lowByte eeff]
  | .subIx1 ff => [0xE0, ff]
  | .cmpIx1 ff => [0xE1, ff]
  | .sbcIx1 ff => [0xE2, ff]
  | .cpxIx1 ff => [0xE3, ff]
  | .andIx1 ff => [0xE4, ff]
  | .ldaIx1 ff => [0xE6, ff]
  | .staIx1 ff => [0xE7, ff]
  | .eorIx1 ff => [0xE8, ff]
  | .adcIx1 ff => [0xE9, ff]
  | .oraIx1 ff => [0xEA, ff]
  | .addIx1 ff => [0xEB, ff]
  | .jmpIx1 ff => [0xEC, ff]
  | .jsrIx1 ff => [0xED, ff]
  | .ldxIx1 ff => [0xEE, ff]
  | .stxIx1 ff => [0xEF, ff]
  | .subIx => [0xF0]
  | .cmpIx => [0xF1]
  | .sbcIx => [0xF2]
  | .cpxIx => [0xF3]
  | .andIx => [0xF4]
  | .ldaIx => [0xF6]
  | .staIx => [0xF7]
  | .eorIx => [0xF8]
  | .adcIx => [0xF9]
  | .oraIx => [0xFA]
  | .addIx => [0xFB]
  | .jmpIx => [0xFC]
  | .jsrIx => [0xFD]
  | .ldxIx => [0xFE]

/-- The descriptor of an instruction: its mnemonic and format (30_encoding.md R64, R66). -/
def Instr.descriptor : Instr → Descriptor
  | .brset0 _ _ => .brset
  | .brclr0 _ _ => .brclr
  | .brset1 _ _ => .brset
  | .brclr1 _ _ => .brclr
  | .brset2 _ _ => .brset
  | .brclr2 _ _ => .brclr
  | .brset3 _ _ => .brset
  | .brclr3 _ _ => .brclr
  | .brset4 _ _ => .brset
  | .brclr4 _ _ => .brclr
  | .brset5 _ _ => .brset
  | .brclr5 _ _ => .brclr
  | .brset6 _ _ => .brset
  | .brclr6 _ _ => .brclr
  | .brset7 _ _ => .brset
  | .brclr7 _ _ => .brclr
  | .bset0 _ => .bset
  | .bclr0 _ => .bclr
  | .bset1 _ => .bset
  | .bclr1 _ => .bclr
  | .bset2 _ => .bset
  | .bclr2 _ => .bclr
  | .bset3 _ => .bset
  | .bclr3 _ => .bclr
  | .bset4 _ => .bset
  | .bclr4 _ => .bclr
  | .bset5 _ => .bset
  | .bclr5 _ => .bclr
  | .bset6 _ => .bset
  | .bclr6 _ => .bclr
  | .bset7 _ => .bset
  | .bclr7 _ => .bclr
  | .bra _ => .branch .bra
  | .brn _ => .branch .brn
  | .bhi _ => .branch .bhi
  | .bls _ => .branch .bls
  | .bcc _ => .branch .bcc
  | .bcs _ => .branch .bcs
  | .bne _ => .branch .bne
  | .beq _ => .branch .beq
  | .bhcc _ => .branch .bhcc
  | .bhcs _ => .branch .bhcs
  | .bpl _ => .branch .bpl
  | .bmi _ => .branch .bmi
  | .bmc _ => .branch .bmc
  | .bms _ => .branch .bms
  | .negDir _ => .rmw .neg .dir
  | .comDir _ => .rmw .com .dir
  | .lsrDir _ => .rmw .lsr .dir
  | .rorDir _ => .rmw .ror .dir
  | .asrDir _ => .rmw .asr .dir
  | .lslDir _ => .rmw .lsl .dir
  | .rolDir _ => .rmw .rol .dir
  | .decDir _ => .rmw .dec .dir
  | .incDir _ => .rmw .inc .dir
  | .tstDir _ => .tst .dir
  | .clrDir _ => .clr .dir
  | .nega => .rmw .neg .acc
  | .mul => .inherent .mul
  | .coma => .rmw .com .acc
  | .lsra => .rmw .lsr .acc
  | .rora => .rmw .ror .acc
  | .asra => .rmw .asr .acc
  | .lsla => .rmw .lsl .acc
  | .rola => .rmw .rol .acc
  | .deca => .rmw .dec .acc
  | .inca => .rmw .inc .acc
  | .tsta => .tst .acc
  | .clra => .clr .acc
  | .negx => .rmw .neg .index
  | .comx => .rmw .com .index
  | .lsrx => .rmw .lsr .index
  | .rorx => .rmw .ror .index
  | .asrx => .rmw .asr .index
  | .lslx => .rmw .lsl .index
  | .rolx => .rmw .rol .index
  | .decx => .rmw .dec .index
  | .incx => .rmw .inc .index
  | .tstx => .tst .index
  | .clrx => .clr .index
  | .negIx1 _ => .rmw .neg .ix1
  | .comIx1 _ => .rmw .com .ix1
  | .lsrIx1 _ => .rmw .lsr .ix1
  | .rorIx1 _ => .rmw .ror .ix1
  | .asrIx1 _ => .rmw .asr .ix1
  | .lslIx1 _ => .rmw .lsl .ix1
  | .rolIx1 _ => .rmw .rol .ix1
  | .decIx1 _ => .rmw .dec .ix1
  | .incIx1 _ => .rmw .inc .ix1
  | .tstIx1 _ => .tst .ix1
  | .clrIx1 _ => .clr .ix1
  | .negIx => .rmw .neg .ix
  | .comIx => .rmw .com .ix
  | .lsrIx => .rmw .lsr .ix
  | .rorIx => .rmw .ror .ix
  | .asrIx => .rmw .asr .ix
  | .lslIx => .rmw .lsl .ix
  | .rolIx => .rmw .rol .ix
  | .decIx => .rmw .dec .ix
  | .incIx => .rmw .inc .ix
  | .tstIx => .tst .ix
  | .clrIx => .clr .ix
  | .rti => .inherent .rti
  | .rts => .inherent .rts
  | .swi => .inherent .swi
  | .stop => .inherent .stop
  | .wait => .inherent .wait
  | .tax => .inherent .tax
  | .clc => .inherent .clc
  | .sec => .inherent .sec
  | .cli => .inherent .cli
  | .sei => .inherent .sei
  | .rsp => .inherent .rsp
  | .txa => .inherent .txa
  | .subImm _ => .value .sub .imm
  | .cmpImm _ => .value .cmp .imm
  | .sbcImm _ => .value .sbc .imm
  | .cpxImm _ => .value .cpx .imm
  | .andImm _ => .value .and .imm
  | .ldaImm _ => .value .lda .imm
  | .eorImm _ => .value .eor .imm
  | .adcImm _ => .value .adc .imm
  | .oraImm _ => .value .ora .imm
  | .addImm _ => .value .add .imm
  | .bsr _ => .bsr
  | .ldxImm _ => .value .ldx .imm
  | .subDir _ => .value .sub (.mem .dir)
  | .cmpDir _ => .value .cmp (.mem .dir)
  | .sbcDir _ => .value .sbc (.mem .dir)
  | .cpxDir _ => .value .cpx (.mem .dir)
  | .andDir _ => .value .and (.mem .dir)
  | .ldaDir _ => .value .lda (.mem .dir)
  | .staDir _ => .sta .dir
  | .eorDir _ => .value .eor (.mem .dir)
  | .adcDir _ => .value .adc (.mem .dir)
  | .oraDir _ => .value .ora (.mem .dir)
  | .addDir _ => .value .add (.mem .dir)
  | .jmpDir _ => .jmp .dir
  | .jsrDir _ => .jsr .dir
  | .ldxDir _ => .value .ldx (.mem .dir)
  | .stxDir _ => .stx .dir
  | .subExt _ => .value .sub (.mem .ext)
  | .cmpExt _ => .value .cmp (.mem .ext)
  | .sbcExt _ => .value .sbc (.mem .ext)
  | .cpxExt _ => .value .cpx (.mem .ext)
  | .andExt _ => .value .and (.mem .ext)
  | .ldaExt _ => .value .lda (.mem .ext)
  | .staExt _ => .sta .ext
  | .eorExt _ => .value .eor (.mem .ext)
  | .adcExt _ => .value .adc (.mem .ext)
  | .oraExt _ => .value .ora (.mem .ext)
  | .addExt _ => .value .add (.mem .ext)
  | .jmpExt _ => .jmp .ext
  | .jsrExt _ => .jsr .ext
  | .ldxExt _ => .value .ldx (.mem .ext)
  | .stxExt _ => .stx .ext
  | .subIx2 _ => .value .sub (.mem .ix2)
  | .cmpIx2 _ => .value .cmp (.mem .ix2)
  | .sbcIx2 _ => .value .sbc (.mem .ix2)
  | .cpxIx2 _ => .value .cpx (.mem .ix2)
  | .andIx2 _ => .value .and (.mem .ix2)
  | .ldaIx2 _ => .value .lda (.mem .ix2)
  | .staIx2 _ => .sta .ix2
  | .eorIx2 _ => .value .eor (.mem .ix2)
  | .adcIx2 _ => .value .adc (.mem .ix2)
  | .oraIx2 _ => .value .ora (.mem .ix2)
  | .addIx2 _ => .value .add (.mem .ix2)
  | .jmpIx2 _ => .jmp .ix2
  | .jsrIx2 _ => .jsr .ix2
  | .ldxIx2 _ => .value .ldx (.mem .ix2)
  | .stxIx2 _ => .stx .ix2
  | .subIx1 _ => .value .sub (.mem .ix1)
  | .cmpIx1 _ => .value .cmp (.mem .ix1)
  | .sbcIx1 _ => .value .sbc (.mem .ix1)
  | .cpxIx1 _ => .value .cpx (.mem .ix1)
  | .andIx1 _ => .value .and (.mem .ix1)
  | .ldaIx1 _ => .value .lda (.mem .ix1)
  | .staIx1 _ => .sta .ix1
  | .eorIx1 _ => .value .eor (.mem .ix1)
  | .adcIx1 _ => .value .adc (.mem .ix1)
  | .oraIx1 _ => .value .ora (.mem .ix1)
  | .addIx1 _ => .value .add (.mem .ix1)
  | .jmpIx1 _ => .jmp .ix1
  | .jsrIx1 _ => .jsr .ix1
  | .ldxIx1 _ => .value .ldx (.mem .ix1)
  | .stxIx1 _ => .stx .ix1
  | .subIx => .value .sub (.mem .ix)
  | .cmpIx => .value .cmp (.mem .ix)
  | .sbcIx => .value .sbc (.mem .ix)
  | .cpxIx => .value .cpx (.mem .ix)
  | .andIx => .value .and (.mem .ix)
  | .ldaIx => .value .lda (.mem .ix)
  | .staIx => .sta .ix
  | .eorIx => .value .eor (.mem .ix)
  | .adcIx => .value .adc (.mem .ix)
  | .oraIx => .value .ora (.mem .ix)
  | .addIx => .value .add (.mem .ix)
  | .jmpIx => .jmp .ix
  | .jsrIx => .jsr .ix
  | .ldxIx => .value .ldx (.mem .ix)

/-- The format of an instruction (30_encoding.md R61). -/
def Instr.format (i : Instr) : Format := i.descriptor.format

/-- The total encoded length of an instruction in bytes (30_encoding.md R60). -/
def Instr.len (i : Instr) : Nat := i.format.len

/-- The instruction bits of an opcode-table word as bytes: bit 0 is the least significant bit of the first byte; the bits from
`nbits` up are 0; three bytes, the longest instruction (30_encoding.md R60). -/
def tableWordBytes (nbits w : Nat) : List Byte :=
  let v := w % 2 ^ nbits
  [BitVec.ofNat 8 v, BitVec.ofNat 8 (v / 256), BitVec.ofNat 8 (v / 65536)]

/-- The instruction the decoder reads from an opcode-table word under the default table, or `none` where it refuses. -/
def decodeTableWord (nbits w : Nat) : Option Instr :=
  match decode defaultOptab (tableWordBytes nbits w) with
  | .ok (i, _) => some i
  | .error _ => none

end Sys2Proof
end

