-- ==== Sys2Proof/Config.lean ====
section
/-! DEFINITION. The implementation parameters of 00_scope.md R4, the decode table `OPTAB` among them, as plain data. R33
(10_state.md): they never change during a run. -/

namespace Sys2Proof

/-- `NEG_CARRY_RULE` (00_scope.md R4; both readings are in 43_complement_negate.md R124). -/
inductive NegCarryRule where
  | borrow
  | additive
  deriving DecidableEq, Repr

/-- The parameters of 00_scope.md R4. `FILL`, `STACK_TOP`, `STACK_SIZE`, `RING_INIT` and `SWI_VECTOR` are OPEN there;
`OPTAB` has a default, and the three switches have a decided value and a described other value. -/
structure Config where
  /-- `OPTAB`, the decode table (30_encoding.md R64). -/
  optab : OpTable
  /-- `FILL`: what a never-written address reads as (20_memory.md R42). -/
  fill : Byte
  /-- `STACK_TOP` (10_state.md R24). -/
  stackTop : Addr
  /-- `STACK_SIZE`, the number of ring cells (10_state.md R24). -/
  stackSize : Nat
  /-- `RING_INIT`, the ring after reset: entry `k` is the cell at `STACK_BOTTOM + k` (10_state.md R25). -/
  ringInit : List Byte
  /-- `SWI_VECTOR`, the address of the vector's high byte (49_subroutine_interrupt_control.md R213). -/
  swiVector : Addr
  /-- `NEG_CARRY_RULE`. -/
  negCarryRule : NegCarryRule
  /-- `ROTATE_THROUGH_CARRY` (44_shift_rotate.md R131). -/
  rotateThroughCarry : Bool
  /-- `CMP_UPDATES_C` (46_incdec_compare_test.md R171). -/
  cmpUpdatesC : Bool
  deriving DecidableEq, Repr

/-- The example instantiation of 00_scope.md R4 and 95_test_vectors.md section 0, with the default decode table and the
switches at the values R4 decides. DESIGN CHOICE, unsafe (log 2, log 3, log 4, log 6): the five open values are in no source; only `State.reset` uses them, and
every statement holds for every `Config`. -/
def Config.exampleInst : Config where
  optab := defaultOptab
  fill := 0xFF
  stackTop := 0x00FF
  stackSize := 64
  ringInit := List.replicate 64 0xEE
  swiVector := 0xFFFC
  negCarryRule := .borrow
  rotateThroughCarry := false
  cmpUpdatesC := false

end Sys2Proof
end

