-- ==== Sys2Proof/WellFormed.lean ====
section
/-! DEFINITION. What is well formed: an instruction (always, because its operand fields have exactly the widths of the
encoding) and a choice of the parameters of 00_scope.md R4. -/

namespace Sys2Proof

/-- Every instruction is well formed: "Operand bytes have no reserved values: every byte 0 to 255 is a legal immediate, address
byte or offset" (30_encoding.md R70), and the fields of `Instr` are typed by width. -/
def Instr.wf (_ : Instr) : Bool := true

/-- `FILL` is not `0x00` (00_scope.md R4, 20_memory.md R42). -/
def Config.fillOk (c : Config) : Bool := c.fill != 0

/-- `1 <= STACK_SIZE` (00_scope.md R4). -/
def Config.sizePos (c : Config) : Bool := decide (1 ≤ c.stackSize)

/-- `STACK_SIZE <= STACK_TOP + 1` (00_scope.md R4). -/
def Config.sizeFits (c : Config) : Bool := decide (c.stackSize ≤ c.stackTop.toNat + 1)

/-- `RING_INIT` gives one byte to each of the `STACK_SIZE` cells (00_scope.md R4, 10_state.md R25). -/
def Config.ringOk (c : Config) : Bool := decide (c.ringInit.length = c.stackSize)

/-- The table says of each of the 256 opcode bytes whether it has a descriptor (30_encoding.md R64). -/
def Config.optabSize (c : Config) : Bool :=
  decide (c.optab.length = 16) && c.optab.all fun column => decide (column.length = 16)

/-- `OPTAB(0xA0) = (sub, IMM, 1)` (30_encoding.md R64 (a)). -/
def Config.optabSub (c : Config) : Bool := decide (c.optab.lookup 0xA0 = some (.value .sub .imm))

/-- `OPTAB(0xFF)` is undefined (30_encoding.md R64 (b)). -/
def Config.optabAbsent (c : Config) : Bool := decide (c.optab.lookup 0xFF = none)

/-- The constraints 30_encoding.md R64 puts on any decode table; (c), (d) and (e) hold of every `OpTable`, because a `Descriptor` has
no field for a bit number, a byte count or a handler. -/
def Config.optabOk (c : Config) : Bool := c.optabSize && c.optabSub && c.optabAbsent

/-- The constraints 00_scope.md R4 puts on the parameters. -/
def Config.wf (c : Config) : Bool := c.fillOk && c.sizePos && c.sizeFits && c.ringOk && c.optabOk

end Sys2Proof
end

