-- ==== Sys2Proof/Machine/State.lean ====
section
/-! DEFINITION. The machine's state (10_state.md R10), the fault latch's content, the reasons a step can stop, and reset
(10_state.md R32, 70_reset_and_hazards.md R250). -/

namespace Sys2Proof.Machine

/-- The memory behind the memory port: listed cells in strictly rising address order, none equal to `FILL`; every other
address reads `FILL` (20_memory.md R41, R42; the form is `Memory.wf`, log 15). -/
abbrev Memory := List Host.Cell

/-- The fault taxonomy (60_exceptions.md R230, R234). Only `unknownOpcode` is ever latched. -/
inductive FaultCause where
  /-- An opcode byte with no table entry; raised by the dispatcher. -/
  | unknownOpcode
  /-- Raised by nothing: every address and value is masked (40_dispatch_addressing.md R98). -/
  | operandOutOfRange
  /-- Arises at the host port only and does not set the latch (70_reset_and_hazards.md R257). -/
  | registerWidthViolation
  /-- Raised by nothing in the hardware (60_exceptions.md R233). -/
  | invalidAddressFormat
  deriving DecidableEq, Repr

/-- What the fault latch records: `(cause, pc0, opcode byte)` (10_state.md R31). -/
structure FaultRecord where
  cause : FaultCause
  pc0 : Addr
  opcode : Byte
  deriving DecidableEq, Repr

/-- The complete state of the hardware (10_state.md R10) and, in `cfg`, the parameters of the step function. -/
structure State where
  /-- The accumulator (10_state.md R11). -/
  a : Byte
  /-- The index register (10_state.md R12). -/
  x : Byte
  /-- The program counter (10_state.md R14). -/
  pc : Addr
  /-- Half-carry (10_state.md R17, R22). -/
  flagH : Bool
  /-- Interrupt mask (10_state.md R17, R23). -/
  flagI : Bool
  /-- Negative (10_state.md R17, R21). -/
  flagN : Bool
  /-- Zero (10_state.md R17, R21). -/
  flagZ : Bool
  /-- Carry (10_state.md R17, R20). -/
  flagC : Bool
  /-- The stack pointer, an address in `[STACK_BOTTOM, STACK_TOP]` (10_state.md R28). -/
  sp : Addr
  /-- The stack ring: entry `k` is the cell named by the address `STACK_BOTTOM + k` (10_state.md R24, R25). -/
  ring : List Byte
  /-- The memory (10_state.md R35, 20_memory.md R41). -/
  mem : Memory
  /-- The fault latch (10_state.md R31). -/
  fault : Option FaultRecord
  /-- The parameters of 00_scope.md R4: the model's own field, written by no step (10_state.md R33, log 1). -/
  cfg : Config
  deriving DecidableEq, Repr

/-- Why the machine stops. -/
inductive Fault where
  /-- Raised by `step`, for any request while the fault latch is set: the engine takes no step and reports the latched
  fault again (60_exceptions.md R232). Safe: the spec's own halted state. -/
  | halted (latched : FaultRecord)
  deriving DecidableEq, Repr

/-- Why a request is turned away. `exec` and `step` answer no refusal; the last two belong to the host port. -/
inductive Refusal where
  /-- An instruction without a meaning; raised by no arm of `exec`. Safe. -/
  | notModelled (mnemonic : String)
  /-- Raised by the host port when a preset value does not fit its register; nothing changes
  (70_reset_and_hazards.md R257). Safe: the spec's own refusal. -/
  | registerWidthViolation (value : Nat)
  /-- Raised by the host port when a program would not fit below address `0x10000`; nothing is written
  (70_reset_and_hazards.md R256). Safe: the spec's own refusal. -/
  | loadPastEnd (start length : Nat)
  deriving DecidableEq, Repr

/-- What a step, a meaning or a host-port request answers. -/
abbrev Result := Host.Outcome State Fault Refusal

/-- The state after reset for given parameters (10_state.md R32, 70_reset_and_hazards.md R250): every register and flag 0,
`sp` at `STACK_TOP`, the ring at `RING_INIT`, memory never written, no fault. -/
def State.resetWith (c : Config) : State where
  a := 0
  x := 0
  pc := 0
  flagH := false
  flagI := false
  flagN := false
  flagZ := false
  flagC := false
  sp := c.stackTop
  ring := c.ringInit
  mem := []
  fault := none
  cfg := c

/-- The machine right after reset. DESIGN CHOICE, unsafe (log 2, log 3): the open parameters stand at the spec's example
instantiation; no statement rests on their values. -/
def State.reset : State := State.resetWith Config.exampleInst

end Sys2Proof.Machine
end

