-- ==== Sys2Proof/Machine/Flags.lean ====
section
/-! DEFINITION. Every flag derivation the spec gives (10_state.md R20 to R22, 43_complement_negate.md R124) and the packed view
of the condition-code register (10_state.md R18, R19). -/

namespace Sys2Proof.Machine

/-- `NZ(r)` (10_state.md R21): `N` is bit 7 of the result, `Z` says the result is 0. -/
def State.withNZ (s : State) (r : Byte) : State :=
  { s with flagN := r.getLsbD 7, flagZ := r == 0 }

/-- A carry-in or borrow-in as a number. -/
def bitNat (b : Bool) : Nat := if b then 1 else 0

/-- `C` of an addition: the unmasked sum exceeds 255 (10_state.md R20). -/
def addCarry (a m : Byte) (c : Bool) : Bool := decide (255 < a.toNat + m.toNat + bitNat c)

/-- `H` of an addition on the accumulator: the sum of the low nibbles exceeds `0x0F` (10_state.md R22). -/
def addHalfCarry (a m : Byte) (c : Bool) : Bool :=
  decide (0x0F < a.toNat % 16 + m.toNat % 16 + bitNat c)

/-- `C` of a subtraction: minuend below subtrahend before masking (10_state.md R20). -/
def subBorrow (a m : Byte) (c : Bool) : Bool := decide (a.toNat < m.toNat + bitNat c)

/-- `C` of `neg`, under either reading of the switch (43_complement_negate.md R124; log 6). -/
def negCarry (rule : NegCarryRule) (v : Byte) : Bool :=
  match rule with
  | .borrow => v != 0
  | .additive => v == 0

/-- The packed byte `CCR = 0xE0 + 16*H + 8*I + 4*N + 2*Z + C` (10_state.md R18, R19; log 7). -/
def State.packCcr (s : State) : Byte :=
  BitVec.ofNat 8 (0xE0 + 16 * bitNat s.flagH + 8 * bitNat s.flagI + 4 * bitNat s.flagN
    + 2 * bitNat s.flagZ + bitNat s.flagC)

/-- Unpacking a byte into the flags: `H I N Z C` from bits 4 to 0, bits 7 to 5 discarded (10_state.md R19; log 7). -/
def State.unpackCcr (s : State) (b : Byte) : State :=
  { s with
    flagH := b.getLsbD 4
    flagI := b.getLsbD 3
    flagN := b.getLsbD 2
    flagZ := b.getLsbD 1
    flagC := b.getLsbD 0 }

end Sys2Proof.Machine
end

