-- ==== Sys2Proof/Machine/Ops.lean ====
section
/-! DEFINITION. The named operations over memory (20_memory.md R41 to R45), the stack ring (10_state.md R24 to R27), the trap
entry and return (60_exceptions.md R235, R238) and the fault latch (60_exceptions.md R231). -/

namespace Sys2Proof.Machine

/-- The byte at address `n`: the listed one, or `FILL` (20_memory.md R41, R42). -/
def Memory.read (fill : Byte) : Memory → Nat → Byte
  | [], _ => fill
  | (k, v) :: rest, n => if n = k then v else Memory.read fill rest n

/-- Writes one byte and keeps the canonical form: a byte equal to `FILL` is not listed (20_memory.md R43; log 15). -/
def Memory.write (fill : Byte) : Memory → Nat → Byte → Memory
  | [], n, b => if b = fill then [] else [(n, b)]
  | (k, v) :: rest, n, b =>
    if n < k then
      if b = fill then (k, v) :: rest else (n, b) :: (k, v) :: rest
    else if n = k then
      if b = fill then rest else (n, b) :: rest
    else
      (k, v) :: Memory.write fill rest n b

/-- The canonical form of a memory whose addresses start at `low`. -/
def Memory.wfFrom (fill : Byte) (low : Nat) : Memory → Bool
  | [] => true
  | (k, v) :: rest =>
    decide (low ≤ k) && decide (k < 65536) && v != fill && Memory.wfFrom fill (k + 1) rest

/-- The canonical form of memory: addresses strictly rising and below 65536, no listed byte equal to `FILL`. -/
def Memory.wf (fill : Byte) (m : Memory) : Bool := Memory.wfFrom fill 0 m

/-- `MemRead(addr, 1)` (20_memory.md R41). -/
def State.memRead (s : State) (addr : Addr) : Byte := Memory.read s.cfg.fill s.mem addr.toNat

/-- `MemRead(addr, 2)`: big-endian, the second address modulo 65536 (20_memory.md R44). -/
def State.memRead16 (s : State) (addr : Addr) : BitVec 16 :=
  joinBytes (s.memRead addr) (s.memRead (addr + 1))

/-- `MemWrite(addr, 1, v)` (20_memory.md R43). -/
def State.memWrite (s : State) (addr : Addr) (v : Byte) : State :=
  { s with mem := Memory.write s.cfg.fill s.mem addr.toNat v }

/-- `STACK_BOTTOM = STACK_TOP - STACK_SIZE + 1` (10_state.md R24). -/
def stackBottom (c : Config) : Nat := c.stackTop.toNat + 1 - c.stackSize

/-- The ring cell named by an address of the stack window. Outside the ring, where no run from reset gets, it reads 0 (log 14). -/
def State.ringRead (s : State) (cell : Addr) : Byte :=
  s.ring.getD (cell.toNat - stackBottom s.cfg) 0

/-- Writes the ring cell named by an address of the stack window; memory is another storage (10_state.md R25). -/
def State.ringWrite (s : State) (cell : Addr) (v : Byte) : State :=
  { s with ring := s.ring.set (cell.toNat - stackBottom s.cfg) v }

/-- The cell the next push writes: one down, from `bottom` to `top` (10_state.md R26). -/
def spDown (c : Config) (sp : Addr) : Addr :=
  if sp.toNat ≤ stackBottom c then c.stackTop else sp - 1

/-- The stack pointer after a pop: one up, from `top` to `bottom` (10_state.md R27). -/
def spUp (c : Config) (sp : Addr) : Addr :=
  if c.stackTop.toNat < sp.toNat + 1 then BitVec.ofNat 16 (stackBottom c) else sp + 1

/-- `Push(v)`: step `sp` down, wrap, then write (10_state.md R26, 90_conflicts.md C1). -/
def push (v : Byte) (s : State) : State :=
  let sp' := spDown s.cfg s.sp
  { s.ringWrite sp' v with sp := sp' }

/-- `Pop()`: read, then step `sp` up, wrapping; the ring is not changed (10_state.md R27, 90_conflicts.md C1). -/
def pop (s : State) : Byte × State :=
  (s.ringRead s.sp, { s with sp := spUp s.cfg s.sp })

/-- Stacks a 16-bit address: low byte first, then high byte (20_memory.md R45; log 8). -/
def push16 (v : BitVec 16) (s : State) : State := push (highByte v) (push (lowByte v) s)

/-- Unstacks a 16-bit address: high byte first, then low byte (20_memory.md R45; log 8). -/
def pop16 (s : State) : BitVec 16 × State :=
  let (h, s₁) := pop s
  let (l, s₂) := pop s₁
  (joinBytes h l, s₂)

/-- Taking the trap: stacks the return address, `x`, `a` and the packed flags, sets `I`, and answers the address held
big-endian at the vector (60_exceptions.md R235, 49_subroutine_interrupt_control.md R213; log 10). -/
def enterTrap (ra : Addr) (vector : Addr) (s : State) : Addr × State :=
  let s₁ := push s.packCcr (push s.a (push s.x (push16 ra s)))
  (s₁.memRead16 vector, { s₁ with flagI := true })

/-- Returning from the trap: unstacks the flags, `a`, `x` and the return address, which it answers (60_exceptions.md R238,
49_subroutine_interrupt_control.md R214). -/
def leaveTrap (s : State) : Addr × State :=
  let (b, s₁) := pop s
  let (av, s₂) := pop (s₁.unpackCcr b)
  let (xv, s₃) := pop s₂
  let (ra, s₄) := pop16 s₃
  (ra, { s₄ with a := av, x := xv })

/-- The effect of `UnknownOpcode`: the latch records cause, `pc0` and opcode byte; nothing else changes (60_exceptions.md R231,
40_dispatch_addressing.md R85; log 5). -/
def State.latchUnknownOpcode (s : State) (opcode : Byte) : State :=
  { s with fault := some { cause := .unknownOpcode, pc0 := s.pc, opcode := opcode } }

end Sys2Proof.Machine
end

