-- ==== Sys2Proof/Machine/Operands.lean ====
section
/-! DEFINITION. The addressing-mode resolver (40_dispatch_addressing.md R86 to R94), the operand classes of the instruction
rules (R95 to R97), and the end of a step: the single write of `pc` (R80, R84). -/

namespace Sys2Proof.Machine

/-- `zext_16` (00_scope.md R6). -/
def zext16 (b : Byte) : Addr := b.setWidth 16

/-- `sext_16` (00_scope.md R6, 30_encoding.md R63). -/
def sext16 (b : Byte) : Addr := b.signExtend 16

/-- The format of a memory operand. -/
def addrFormat : AddrOperand → Format
  | .dir _ => .dir
  | .ext _ => .ext
  | .ix2 _ => .ix2
  | .ix1 _ => .ix1
  | .ix => .ix

/-- The effective address, from the value `x` has when the step begins (40_dispatch_addressing.md R83, R88 to R92; log 11). -/
def effAddr (x : Byte) : AddrOperand → Addr
  | .dir dd => zext16 dd
  | .ext hhll => hhll
  | .ix2 eeff => zext16 x + eeff
  | .ix1 ff => zext16 x + zext16 ff
  | .ix => zext16 x

/-- The format of a value-reading operand. -/
def valueFormat : ValueOperand → Format
  | .imm _ => .imm
  | .mem o => addrFormat o

/-- The operand `m` of a value-reading instruction (40_dispatch_addressing.md R87, R95). -/
def readValue (o : ValueOperand) (s : State) : Byte :=
  match o with
  | .imm ii => ii
  | .mem o => s.memRead (effAddr s.x o)

/-- The format of a read-modify-write operand. -/
def rmwFormat : RmwOperand → Format
  | .acc => .inh
  | .index => .inh
  | .dir _ => .dir
  | .ix1 _ => .ix1
  | .ix => .ix

/-- The effective address of a read-modify-write operand in memory; `none` for `a` and `x`. -/
def rmwAddr (x : Byte) : RmwOperand → Option Addr
  | .acc => none
  | .index => none
  | .dir dd => some (effAddr x (.dir dd))
  | .ix1 ff => some (effAddr x (.ix1 ff))
  | .ix => some (effAddr x .ix)

/-- The operand `v` of a read-modify-write instruction (40_dispatch_addressing.md R96). -/
def readRmw (o : RmwOperand) (s : State) : Byte :=
  match o with
  | .acc => s.a
  | .index => s.x
  | .dir dd => s.memRead (effAddr s.x (.dir dd))
  | .ix1 ff => s.memRead (effAddr s.x (.ix1 ff))
  | .ix => s.memRead (effAddr s.x .ix)

/-- Writes the result `r` back to the operand it came from (40_dispatch_addressing.md R96). -/
def writeRmw (o : RmwOperand) (r : Byte) (s : State) : State :=
  match o with
  | .acc => { s with a := r }
  | .index => { s with x := r }
  | .dir dd => s.memWrite (effAddr s.x (.dir dd)) r
  | .ix1 ff => s.memWrite (effAddr s.x (.ix1 ff)) r
  | .ix => s.memWrite (effAddr s.x .ix) r

/-- `npc = mask16(pc0 + len)` (10_state.md R15, R16). -/
def nextPc (f : Format) (s : State) : Addr := s.pc + BitVec.ofNat 16 f.len

/-- `target = mask16(npc + rel)` (40_dispatch_addressing.md R93, 48_branches.md R190; log 11). -/
def relTarget (f : Format) (rr : Byte) (s : State) : Addr := nextPc f s + sext16 rr

/-- The end of a step without redirect: the handler's state `s'`, with `pc <- npc` of the step that began in `s`
(40_dispatch_addressing.md R84). -/
def advance (f : Format) (s s' : State) : Result := .next { s' with pc := nextPc f s }

/-- The end of a step with redirect: `pc <- target`, no length added (40_dispatch_addressing.md R84). -/
def redirect (target : Addr) (s' : State) : Result := .next { s' with pc := target }

/-- A value-reading instruction: resolve `m`, run the handler, advance (40_dispatch_addressing.md R80, R95). -/
def runValue (handler : Byte → State → State) (o : ValueOperand) (s : State) : Result :=
  advance (valueFormat o) s (handler (readValue o s) s)

/-- A read-modify-write instruction: read `v`, write back the handler's byte, keep the handler's flags, advance
(40_dispatch_addressing.md R80, R96). -/
def runRmw (handler : Byte → State → Byte × State) (o : RmwOperand) (s : State) : Result :=
  let (r, s₁) := handler (readRmw o s) s
  advance (rmwFormat o) s (writeRmw o r s₁)

/-- A store of `v`: write it at the effective address, `NZ(v)`, advance (40_dispatch_addressing.md R97, 45_data_movement.md R159). -/
def runStore (v : Byte) (o : AddrOperand) (s : State) : Result :=
  advance (addrFormat o) s ((s.memWrite (effAddr s.x o) v).withNZ v)

/-- A branch: redirect if the condition holds, else advance (48_branches.md R190). -/
def runBranch (cond : Bool) (f : Format) (rr : Byte) (s : State) : Result :=
  if cond then redirect (relTarget f rr s) s else advance f s s

/-- A call: push the return address `npc`, redirect (49_subroutine_interrupt_control.md R210, R211). -/
def runCall (f : Format) (target : Addr) (s : State) : Result :=
  redirect target (push16 (nextPc f s) s)

end Sys2Proof.Machine
end

