-- ==== Sys2Proof/Machine/Arithmetic.lean ====
section
/-! DEFINITION. Arithmetic: `add adc sub sbc mul` (41_arithmetic.md R100 to R104). -/

namespace Sys2Proof.Machine

/-- `add` (41_arithmetic.md R100): the unmasked sum gives `C` and `H`, the masked one `a`, `N`, `Z`. -/
def addHandler (m : Byte) (s : State) : State :=
  let r := BitVec.ofNat 8 (s.a.toNat + m.toNat)
  { s.withNZ r with flagH := addHalfCarry s.a m false, flagC := addCarry s.a m false, a := r }

/-- `adc` (41_arithmetic.md R101): as `add` with the old `C` in the sum, the carry and the half-carry (log 12). -/
def adcHandler (m : Byte) (s : State) : State :=
  let r := BitVec.ofNat 8 (s.a.toNat + m.toNat + bitNat s.flagC)
  { s.withNZ r with flagH := addHalfCarry s.a m s.flagC, flagC := addCarry s.a m s.flagC, a := r }

/-- `sub` (41_arithmetic.md R102): `C` is the borrow; `H` keeps its value (90_conflicts.md C4). -/
def subHandler (m : Byte) (s : State) : State :=
  let r := BitVec.ofInt 8 ((s.a.toNat : Int) - (m.toNat : Int))
  { s.withNZ r with flagC := subBorrow s.a m false, a := r }

/-- `sbc` (41_arithmetic.md R103): the old `C` is subtracted too and counts in the borrow (log 12). -/
def sbcHandler (m : Byte) (s : State) : State :=
  let r := BitVec.ofInt 8 ((s.a.toNat : Int) - (m.toNat : Int) - (bitNat s.flagC : Int))
  { s.withNZ r with flagC := subBorrow s.a m s.flagC, a := r }

/-- `mul` (41_arithmetic.md R104): the low byte of the product goes to `a`; `x` and the flags keep their values (log 12). -/
def mulHandler (s : State) : State :=
  { s with a := BitVec.ofNat 8 (s.a.toNat * s.x.toNat) }

/-- `add` IMM (`AB`, R100). -/
def execAddImm (ii : Byte) (s : State) : Result :=
  runValue addHandler (.imm ii) s

/-- `add` DIR (`BB`, R100). -/
def execAddDir (dd : Byte) (s : State) : Result :=
  runValue addHandler (.mem (.dir dd)) s

/-- `add` EXT (`CB`, R100). -/
def execAddExt (hhll : Addr) (s : State) : Result :=
  runValue addHandler (.mem (.ext hhll)) s

/-- `add` IX2 (`DB`, R100). -/
def execAddIx2 (eeff : BitVec 16) (s : State) : Result :=
  runValue addHandler (.mem (.ix2 eeff)) s

/-- `add` IX1 (`EB`, R100). -/
def execAddIx1 (ff : Byte) (s : State) : Result :=
  runValue addHandler (.mem (.ix1 ff)) s

/-- `add` IX (`FB`, R100). -/
def execAddIx (s : State) : Result :=
  runValue addHandler (.mem .ix) s

/-- `adc` IMM (`A9`, R101). -/
def execAdcImm (ii : Byte) (s : State) : Result :=
  runValue adcHandler (.imm ii) s

/-- `adc` DIR (`B9`, R101). -/
def execAdcDir (dd : Byte) (s : State) : Result :=
  runValue adcHandler (.mem (.dir dd)) s

/-- `adc` EXT (`C9`, R101). -/
def execAdcExt (hhll : Addr) (s : State) : Result :=
  runValue adcHandler (.mem (.ext hhll)) s

/-- `adc` IX2 (`D9`, R101). -/
def execAdcIx2 (eeff : BitVec 16) (s : State) : Result :=
  runValue adcHandler (.mem (.ix2 eeff)) s

/-- `adc` IX1 (`E9`, R101). -/
def execAdcIx1 (ff : Byte) (s : State) : Result :=
  runValue adcHandler (.mem (.ix1 ff)) s

/-- `adc` IX (`F9`, R101). -/
def execAdcIx (s : State) : Result :=
  runValue adcHandler (.mem .ix) s

/-- `sub` IMM (`A0`, R102). -/
def execSubImm (ii : Byte) (s : State) : Result :=
  runValue subHandler (.imm ii) s

/-- `sub` DIR (`B0`, R102). -/
def execSubDir (dd : Byte) (s : State) : Result :=
  runValue subHandler (.mem (.dir dd)) s

/-- `sub` EXT (`C0`, R102). -/
def execSubExt (hhll : Addr) (s : State) : Result :=
  runValue subHandler (.mem (.ext hhll)) s

/-- `sub` IX2 (`D0`, R102). -/
def execSubIx2 (eeff : BitVec 16) (s : State) : Result :=
  runValue subHandler (.mem (.ix2 eeff)) s

/-- `sub` IX1 (`E0`, R102). -/
def execSubIx1 (ff : Byte) (s : State) : Result :=
  runValue subHandler (.mem (.ix1 ff)) s

/-- `sub` IX (`F0`, R102). -/
def execSubIx (s : State) : Result :=
  runValue subHandler (.mem .ix) s

/-- `sbc` IMM (`A2`, R103). -/
def execSbcImm (ii : Byte) (s : State) : Result :=
  runValue sbcHandler (.imm ii) s

/-- `sbc` DIR (`B2`, R103). -/
def execSbcDir (dd : Byte) (s : State) : Result :=
  runValue sbcHandler (.mem (.dir dd)) s

/-- `sbc` EXT (`C2`, R103). -/
def execSbcExt (hhll : Addr) (s : State) : Result :=
  runValue sbcHandler (.mem (.ext hhll)) s

/-- `sbc` IX2 (`D2`, R103). -/
def execSbcIx2 (eeff : BitVec 16) (s : State) : Result :=
  runValue sbcHandler (.mem (.ix2 eeff)) s

/-- `sbc` IX1 (`E2`, R103). -/
def execSbcIx1 (ff : Byte) (s : State) : Result :=
  runValue sbcHandler (.mem (.ix1 ff)) s

/-- `sbc` IX (`F2`, R103). -/
def execSbcIx (s : State) : Result :=
  runValue sbcHandler (.mem .ix) s

/-- `mul` INH (`42`, R104). -/
def execMul (s : State) : Result :=
  advance .inh s (mulHandler s)

end Sys2Proof.Machine
end

