-- ==== Sys2Proof/Machine/BitOps.lean ====
section
/-! DEFINITION. Bit set and clear, bit test and branch: `bset bclr brset brclr` (47_bit_ops.md R180 to R184). -/

namespace Sys2Proof.Machine

/-- The byte with only bit `n` set. -/
def bitMask (n : Nat) : Byte := BitVec.ofNat 8 (2 ^ n)

/-- `bset n` (47_bit_ops.md R180): read, set the bit, write back; no flag (R184). -/
def runBset (n : Nat) (dd : Byte) (s : State) : Result :=
  let ea := effAddr s.x (.dir dd)
  advance .bsc s (s.memWrite ea (s.memRead ea ||| bitMask n))

/-- `bclr n` (47_bit_ops.md R181): read, clear the bit, write back; no flag (R184). -/
def runBclr (n : Nat) (dd : Byte) (s : State) : Result :=
  let ea := effAddr s.x (.dir dd)
  advance .bsc s (s.memWrite ea (s.memRead ea &&& (255 - bitMask n)))

/-- `brset n` (47_bit_ops.md R182): branch if the bit is 1; no flag, no write (R184). -/
def runBrset (n : Nat) (dd rr : Byte) (s : State) : Result :=
  runBranch ((s.memRead (effAddr s.x (.dir dd))).getLsbD n) .btb rr s

/-- `brclr n` (47_bit_ops.md R183): branch if the bit is 0; no flag, no write (R184). -/
def runBrclr (n : Nat) (dd rr : Byte) (s : State) : Result :=
  runBranch (!(s.memRead (effAddr s.x (.dir dd))).getLsbD n) .btb rr s

/-- `bset 0` BSC (`10`, R180). -/
def execBset0 (dd : Byte) (s : State) : Result :=
  runBset 0 dd s

/-- `bset 1` BSC (`12`, R180). -/
def execBset1 (dd : Byte) (s : State) : Result :=
  runBset 1 dd s

/-- `bset 2` BSC (`14`, R180). -/
def execBset2 (dd : Byte) (s : State) : Result :=
  runBset 2 dd s

/-- `bset 3` BSC (`16`, R180). -/
def execBset3 (dd : Byte) (s : State) : Result :=
  runBset 3 dd s

/-- `bset 4` BSC (`18`, R180). -/
def execBset4 (dd : Byte) (s : State) : Result :=
  runBset 4 dd s

/-- `bset 5` BSC (`1A`, R180). -/
def execBset5 (dd : Byte) (s : State) : Result :=
  runBset 5 dd s

/-- `bset 6` BSC (`1C`, R180). -/
def execBset6 (dd : Byte) (s : State) : Result :=
  runBset 6 dd s

/-- `bset 7` BSC (`1E`, R180). -/
def execBset7 (dd : Byte) (s : State) : Result :=
  runBset 7 dd s

/-- `bclr 0` BSC (`11`, R181). -/
def execBclr0 (dd : Byte) (s : State) : Result :=
  runBclr 0 dd s

/-- `bclr 1` BSC (`13`, R181). -/
def execBclr1 (dd : Byte) (s : State) : Result :=
  runBclr 1 dd s

/-- `bclr 2` BSC (`15`, R181). -/
def execBclr2 (dd : Byte) (s : State) : Result :=
  runBclr 2 dd s

/-- `bclr 3` BSC (`17`, R181). -/
def execBclr3 (dd : Byte) (s : State) : Result :=
  runBclr 3 dd s

/-- `bclr 4` BSC (`19`, R181). -/
def execBclr4 (dd : Byte) (s : State) : Result :=
  runBclr 4 dd s

/-- `bclr 5` BSC (`1B`, R181). -/
def execBclr5 (dd : Byte) (s : State) : Result :=
  runBclr 5 dd s

/-- `bclr 6` BSC (`1D`, R181). -/
def execBclr6 (dd : Byte) (s : State) : Result :=
  runBclr 6 dd s

/-- `bclr 7` BSC (`1F`, R181). -/
def execBclr7 (dd : Byte) (s : State) : Result :=
  runBclr 7 dd s

/-- `brset 0` BTB (`00`, R182). -/
def execBrset0 (dd : Byte) (rr : Byte) (s : State) : Result :=
  runBrset 0 dd rr s

/-- `brset 1` BTB (`02`, R182). -/
def execBrset1 (dd : Byte) (rr : Byte) (s : State) : Result :=
  runBrset 1 dd rr s

/-- `brset 2` BTB (`04`, R182). -/
def execBrset2 (dd : Byte) (rr : Byte) (s : State) : Result :=
  runBrset 2 dd rr s

/-- `brset 3` BTB (`06`, R182). -/
def execBrset3 (dd : Byte) (rr : Byte) (s : State) : Result :=
  runBrset 3 dd rr s

/-- `brset 4` BTB (`08`, R182). -/
def execBrset4 (dd : Byte) (rr : Byte) (s : State) : Result :=
  runBrset 4 dd rr s

/-- `brset 5` BTB (`0A`, R182). -/
def execBrset5 (dd : Byte) (rr : Byte) (s : State) : Result :=
  runBrset 5 dd rr s

/-- `brset 6` BTB (`0C`, R182). -/
def execBrset6 (dd : Byte) (rr : Byte) (s : State) : Result :=
  runBrset 6 dd rr s

/-- `brset 7` BTB (`0E`, R182). -/
def execBrset7 (dd : Byte) (rr : Byte) (s : State) : Result :=
  runBrset 7 dd rr s

/-- `brclr 0` BTB (`01`, R183). -/
def execBrclr0 (dd : Byte) (rr : Byte) (s : State) : Result :=
  runBrclr 0 dd rr s

/-- `brclr 1` BTB (`03`, R183). -/
def execBrclr1 (dd : Byte) (rr : Byte) (s : State) : Result :=
  runBrclr 1 dd rr s

/-- `brclr 2` BTB (`05`, R183). -/
def execBrclr2 (dd : Byte) (rr : Byte) (s : State) : Result :=
  runBrclr 2 dd rr s

/-- `brclr 3` BTB (`07`, R183). -/
def execBrclr3 (dd : Byte) (rr : Byte) (s : State) : Result :=
  runBrclr 3 dd rr s

/-- `brclr 4` BTB (`09`, R183). -/
def execBrclr4 (dd : Byte) (rr : Byte) (s : State) : Result :=
  runBrclr 4 dd rr s

/-- `brclr 5` BTB (`0B`, R183). -/
def execBrclr5 (dd : Byte) (rr : Byte) (s : State) : Result :=
  runBrclr 5 dd rr s

/-- `brclr 6` BTB (`0D`, R183). -/
def execBrclr6 (dd : Byte) (rr : Byte) (s : State) : Result :=
  runBrclr 6 dd rr s

/-- `brclr 7` BTB (`0F`, R183). -/
def execBrclr7 (dd : Byte) (rr : Byte) (s : State) : Result :=
  runBrclr 7 dd rr s

end Sys2Proof.Machine
end

