-- ==== Sys2Proof/Machine/Branch.lean ====
section
/-! DEFINITION. The fourteen branches (48_branches.md R190 to R204; the conditions are general knowledge of the spec: log 9). -/

namespace Sys2Proof.Machine

/-- `bra` REL (`20`, R191): always. -/
def execBra (rr : Byte) (s : State) : Result :=
  runBranch true .rel rr s

/-- `brn` REL (`21`, R192): never; the offset byte is still consumed. -/
def execBrn (rr : Byte) (s : State) : Result :=
  runBranch false .rel rr s

/-- `bhi` REL (`22`, R193): `C == 0 and Z == 0`. -/
def execBhi (rr : Byte) (s : State) : Result :=
  runBranch (!s.flagC && !s.flagZ) .rel rr s

/-- `bls` REL (`23`, R194): `C == 1 or Z == 1`. -/
def execBls (rr : Byte) (s : State) : Result :=
  runBranch (s.flagC || s.flagZ) .rel rr s

/-- `bcc` REL (`24`, R195): `C == 0`; also `bhs`. -/
def execBcc (rr : Byte) (s : State) : Result :=
  runBranch (!s.flagC) .rel rr s

/-- `bcs` REL (`25`, R196): `C == 1`; also `blo`. -/
def execBcs (rr : Byte) (s : State) : Result :=
  runBranch s.flagC .rel rr s

/-- `bne` REL (`26`, R197): `Z == 0`. -/
def execBne (rr : Byte) (s : State) : Result :=
  runBranch (!s.flagZ) .rel rr s

/-- `beq` REL (`27`, R198): `Z == 1`. -/
def execBeq (rr : Byte) (s : State) : Result :=
  runBranch s.flagZ .rel rr s

/-- `bhcc` REL (`28`, R199): `H == 0`. -/
def execBhcc (rr : Byte) (s : State) : Result :=
  runBranch (!s.flagH) .rel rr s

/-- `bhcs` REL (`29`, R200): `H == 1`. -/
def execBhcs (rr : Byte) (s : State) : Result :=
  runBranch s.flagH .rel rr s

/-- `bpl` REL (`2A`, R201): `N == 0`. -/
def execBpl (rr : Byte) (s : State) : Result :=
  runBranch (!s.flagN) .rel rr s

/-- `bmi` REL (`2B`, R202): `N == 1`. -/
def execBmi (rr : Byte) (s : State) : Result :=
  runBranch s.flagN .rel rr s

/-- `bmc` REL (`2C`, R203): `I == 0`. -/
def execBmc (rr : Byte) (s : State) : Result :=
  runBranch (!s.flagI) .rel rr s

/-- `bms` REL (`2D`, R204): `I == 1`. -/
def execBms (rr : Byte) (s : State) : Result :=
  runBranch s.flagI .rel rr s

end Sys2Proof.Machine
end

