-- ==== Sys2Proof/Machine/ComplementNegate.lean ====
section
/-! DEFINITION. Complement and negate: `com neg` on `a`, `x` and memory (43_complement_negate.md R120 to R126). -/

namespace Sys2Proof.Machine

/-- `COM(v)` (43_complement_negate.md R120): `r = 255 - v`, `C` is 1 always. -/
def comHandler (v : Byte) (s : State) : Byte × State :=
  let r := BitVec.ofNat 8 (255 - v.toNat)
  (r, { s.withNZ r with flagC := true })

/-- `NEG(v)` (43_complement_negate.md R120, R124): `r = mask8(0 - v)`, `C` by the switch `NEG_CARRY_RULE` (log 6). -/
def negHandler (v : Byte) (s : State) : Byte × State :=
  let r := BitVec.ofInt 8 (0 - (v.toNat : Int))
  (r, { s.withNZ r with flagC := negCarry s.cfg.negCarryRule v })

/-- `coma` INH (`43`, R121). -/
def execComa (s : State) : Result :=
  runRmw comHandler .acc s

/-- `comx` INH (`53`, R122). -/
def execComx (s : State) : Result :=
  runRmw comHandler .index s

/-- `com` DIR (`33`, R123). -/
def execComDir (dd : Byte) (s : State) : Result :=
  runRmw comHandler (.dir dd) s

/-- `com` IX1 (`63`, R123). -/
def execComIx1 (ff : Byte) (s : State) : Result :=
  runRmw comHandler (.ix1 ff) s

/-- `com` IX (`73`, R123). -/
def execComIx (s : State) : Result :=
  runRmw comHandler .ix s

/-- `nega` INH (`40`, R124). -/
def execNega (s : State) : Result :=
  runRmw negHandler .acc s

/-- `negx` INH (`50`, R125). -/
def execNegx (s : State) : Result :=
  runRmw negHandler .index s

/-- `neg` DIR (`30`, R126). -/
def execNegDir (dd : Byte) (s : State) : Result :=
  runRmw negHandler (.dir dd) s

/-- `neg` IX1 (`60`, R126). -/
def execNegIx1 (ff : Byte) (s : State) : Result :=
  runRmw negHandler (.ix1 ff) s

/-- `neg` IX (`70`, R126). -/
def execNegIx (s : State) : Result :=
  runRmw negHandler .ix s

end Sys2Proof.Machine
end

