-- ==== Sys2Proof/Machine/Control.lean ====
section
/-! DEFINITION. Subroutine, interrupt and control: `bsr jsr rts swi rti jmp clc sec cli sei rsp wait stop` (49_subroutine_interrupt_control.md R210 to R222). -/

namespace Sys2Proof.Machine

/-- `bsr` REL (`AD`, R210). -/
def execBsr (rr : Byte) (s : State) : Result :=
  runCall .rel (relTarget .rel rr s) s

/-- `jsr` DIR (`BD`, R211). -/
def execJsrDir (dd : Byte) (s : State) : Result :=
  runCall (addrFormat (.dir dd)) (effAddr s.x (.dir dd)) s

/-- `jsr` EXT (`CD`, R211). -/
def execJsrExt (hhll : Addr) (s : State) : Result :=
  runCall (addrFormat (.ext hhll)) (effAddr s.x (.ext hhll)) s

/-- `jsr` IX2 (`DD`, R211). -/
def execJsrIx2 (eeff : BitVec 16) (s : State) : Result :=
  runCall (addrFormat (.ix2 eeff)) (effAddr s.x (.ix2 eeff)) s

/-- `jsr` IX1 (`ED`, R211). -/
def execJsrIx1 (ff : Byte) (s : State) : Result :=
  runCall (addrFormat (.ix1 ff)) (effAddr s.x (.ix1 ff)) s

/-- `jsr` IX (`FD`, R211). -/
def execJsrIx (s : State) : Result :=
  runCall (addrFormat .ix) (effAddr s.x .ix) s

/-- `rts` (`81`, R212): pops the return address. -/
def execRts (s : State) : Result :=
  let (ra, s₁) := pop16 s
  redirect ra s₁

/-- `swi` (`83`, R213): takes the trap with return address `npc` (log 10). -/
def execSwi (s : State) : Result :=
  let (target, s₁) := enterTrap (nextPc .inh s) s.cfg.swiVector s
  redirect target s₁

/-- `rti` (`80`, R214): returns from the trap. -/
def execRti (s : State) : Result :=
  let (ra, s₁) := leaveTrap s
  redirect ra s₁

/-- `jmp` DIR (`BC`, R215). -/
def execJmpDir (dd : Byte) (s : State) : Result :=
  redirect (effAddr s.x (.dir dd)) s

/-- `jmp` EXT (`CC`, R215). -/
def execJmpExt (hhll : Addr) (s : State) : Result :=
  redirect (effAddr s.x (.ext hhll)) s

/-- `jmp` IX2 (`DC`, R215). -/
def execJmpIx2 (eeff : BitVec 16) (s : State) : Result :=
  redirect (effAddr s.x (.ix2 eeff)) s

/-- `jmp` IX1 (`EC`, R215). -/
def execJmpIx1 (ff : Byte) (s : State) : Result :=
  redirect (effAddr s.x (.ix1 ff)) s

/-- `jmp` IX (`FC`, R215). -/
def execJmpIx (s : State) : Result :=
  redirect (effAddr s.x .ix) s

/-- `clc` INH (`98`, R216). -/
def execClc (s : State) : Result :=
  advance .inh s { s with flagC := false }

/-- `sec` INH (`99`, R217). -/
def execSec (s : State) : Result :=
  advance .inh s { s with flagC := true }

/-- `cli` INH (`9A`, R218). -/
def execCli (s : State) : Result :=
  advance .inh s { s with flagI := false }

/-- `sei` INH (`9B`, R219). -/
def execSei (s : State) : Result :=
  advance .inh s { s with flagI := true }

/-- `rsp` (`9C`, R220): `sp <- STACK_TOP`; the ring is not changed. -/
def execRsp (s : State) : Result :=
  advance .inh s { s with sp := s.cfg.stackTop }

/-- `wait` (`8F`, R221): no effect except `pc <- npc` (log 13). -/
def execWait (s : State) : Result :=
  advance .inh s s

/-- `stop` (`8E`, R222): no effect except `pc <- npc` (log 13). -/
def execStop (s : State) : Result :=
  advance .inh s s

end Sys2Proof.Machine
end

