-- ==== Sys2Proof/Machine/DataMovement.lean ====
section
/-! DEFINITION. Data movement: `lda sta ldx stx tax txa clr` (45_data_movement.md R150 to R159). -/

namespace Sys2Proof.Machine

/-- `lda` (45_data_movement.md R150). -/
def ldaHandler (m : Byte) (s : State) : State := { s.withNZ m with a := m }

/-- `ldx` (45_data_movement.md R152): the operand was resolved from the old `x`. -/
def ldxHandler (m : Byte) (s : State) : State := { s.withNZ m with x := m }

/-- What `clr` leaves in the flags: `N = 0`, `Z = 1` (45_data_movement.md R156 to R158). -/
def clearFlags (s : State) : State := { s with flagN := false, flagZ := true }

/-- `clr` of any operand: write 0, no data read (45_data_movement.md R156 to R158; log 18). -/
def runClear (o : RmwOperand) (s : State) : Result :=
  advance (rmwFormat o) s (writeRmw o 0 (clearFlags s))

/-- `lda` IMM (`A6`, R150). -/
def execLdaImm (ii : Byte) (s : State) : Result :=
  runValue ldaHandler (.imm ii) s

/-- `lda` DIR (`B6`, R150). -/
def execLdaDir (dd : Byte) (s : State) : Result :=
  runValue ldaHandler (.mem (.dir dd)) s

/-- `lda` EXT (`C6`, R150). -/
def execLdaExt (hhll : Addr) (s : State) : Result :=
  runValue ldaHandler (.mem (.ext hhll)) s

/-- `lda` IX2 (`D6`, R150). -/
def execLdaIx2 (eeff : BitVec 16) (s : State) : Result :=
  runValue ldaHandler (.mem (.ix2 eeff)) s

/-- `lda` IX1 (`E6`, R150). -/
def execLdaIx1 (ff : Byte) (s : State) : Result :=
  runValue ldaHandler (.mem (.ix1 ff)) s

/-- `lda` IX (`F6`, R150). -/
def execLdaIx (s : State) : Result :=
  runValue ldaHandler (.mem .ix) s

/-- `sta` DIR (`B7`, R151). -/
def execStaDir (dd : Byte) (s : State) : Result :=
  runStore s.a (.dir dd) s

/-- `sta` EXT (`C7`, R151). -/
def execStaExt (hhll : Addr) (s : State) : Result :=
  runStore s.a (.ext hhll) s

/-- `sta` IX2 (`D7`, R151). -/
def execStaIx2 (eeff : BitVec 16) (s : State) : Result :=
  runStore s.a (.ix2 eeff) s

/-- `sta` IX1 (`E7`, R151). -/
def execStaIx1 (ff : Byte) (s : State) : Result :=
  runStore s.a (.ix1 ff) s

/-- `sta` IX (`F7`, R151). -/
def execStaIx (s : State) : Result :=
  runStore s.a .ix s

/-- `ldx` IMM (`AE`, R152). -/
def execLdxImm (ii : Byte) (s : State) : Result :=
  runValue ldxHandler (.imm ii) s

/-- `ldx` DIR (`BE`, R152). -/
def execLdxDir (dd : Byte) (s : State) : Result :=
  runValue ldxHandler (.mem (.dir dd)) s

/-- `ldx` EXT (`CE`, R152). -/
def execLdxExt (hhll : Addr) (s : State) : Result :=
  runValue ldxHandler (.mem (.ext hhll)) s

/-- `ldx` IX2 (`DE`, R152). -/
def execLdxIx2 (eeff : BitVec 16) (s : State) : Result :=
  runValue ldxHandler (.mem (.ix2 eeff)) s

/-- `ldx` IX1 (`EE`, R152). -/
def execLdxIx1 (ff : Byte) (s : State) : Result :=
  runValue ldxHandler (.mem (.ix1 ff)) s

/-- `ldx` IX (`FE`, R152). -/
def execLdxIx (s : State) : Result :=
  runValue ldxHandler (.mem .ix) s

/-- `stx` DIR (`BF`, R153). -/
def execStxDir (dd : Byte) (s : State) : Result :=
  runStore s.x (.dir dd) s

/-- `stx` EXT (`CF`, R153). -/
def execStxExt (hhll : Addr) (s : State) : Result :=
  runStore s.x (.ext hhll) s

/-- `stx` IX2 (`DF`, R153). -/
def execStxIx2 (eeff : BitVec 16) (s : State) : Result :=
  runStore s.x (.ix2 eeff) s

/-- `stx` IX1 (`EF`, R153). -/
def execStxIx1 (ff : Byte) (s : State) : Result :=
  runStore s.x (.ix1 ff) s

/-- `tax` (`97`, R154): copies `a` to `x` and sets `NZ` (R159; log 12). -/
def execTax (s : State) : Result :=
  advance .inh s { s.withNZ s.a with x := s.a }

/-- `txa` (`9F`, R155): copies `x` to `a` and sets `NZ` (R159; log 12). -/
def execTxa (s : State) : Result :=
  advance .inh s { s.withNZ s.x with a := s.x }

/-- `clra` INH (`4F`, R156). -/
def execClra (s : State) : Result :=
  runClear .acc s

/-- `clrx` INH (`5F`, R157). -/
def execClrx (s : State) : Result :=
  runClear .index s

/-- `clr` DIR (`3F`, R158). -/
def execClrDir (dd : Byte) (s : State) : Result :=
  runClear (.dir dd) s

/-- `clr` IX1 (`6F`, R158). -/
def execClrIx1 (ff : Byte) (s : State) : Result :=
  runClear (.ix1 ff) s

/-- `clr` IX (`7F`, R158). -/
def execClrIx (s : State) : Result :=
  runClear .ix s

end Sys2Proof.Machine
end

