-- ==== Sys2Proof/Machine/IncDecCompare.lean ====
section
/-! DEFINITION. Increment, decrement, compare and test: `inc dec cmp cpx tst` (46_incdec_compare_test.md R164 to R177). -/

namespace Sys2Proof.Machine

/-- `INC(v)` (46_incdec_compare_test.md R164): `N` and `Z` only (log 12). -/
def incHandler (v : Byte) (s : State) : Byte × State :=
  let r := BitVec.ofNat 8 (v.toNat + 1)
  (r, s.withNZ r)

/-- `DEC(v)` (46_incdec_compare_test.md R164): `N` and `Z` only (log 12). -/
def decHandler (v : Byte) (s : State) : Byte × State :=
  let r := BitVec.ofInt 8 ((v.toNat : Int) - 1)
  (r, s.withNZ r)

/-- A comparison of a register `v` with `m`: `N` and `Z` from the difference, and `C` from the borrow only where the switch
`CMP_UPDATES_C` is set (46_incdec_compare_test.md R171; log 6). -/
def compareWith (v m : Byte) (s : State) : State :=
  let s₁ := s.withNZ (BitVec.ofInt 8 ((v.toNat : Int) - (m.toNat : Int)))
  { s₁ with flagC := if s.cfg.cmpUpdatesC then subBorrow v m false else s.flagC }

/-- `cmp` (46_incdec_compare_test.md R172). -/
def cmpHandler (m : Byte) (s : State) : State := compareWith s.a m s

/-- `cpx` (46_incdec_compare_test.md R173). -/
def cpxHandler (m : Byte) (s : State) : State := compareWith s.x m s

/-- `tst` of any operand: `NZ` of the operand, nothing else (46_incdec_compare_test.md R174 to R177). -/
def runTest (o : RmwOperand) (s : State) : Result :=
  advance (rmwFormat o) s (s.withNZ (readRmw o s))

/-- `inca` INH (`4C`, R165). -/
def execInca (s : State) : Result :=
  runRmw incHandler .acc s

/-- `incx` INH (`5C`, R166). -/
def execIncx (s : State) : Result :=
  runRmw incHandler .index s

/-- `inc` DIR (`3C`, R167). -/
def execIncDir (dd : Byte) (s : State) : Result :=
  runRmw incHandler (.dir dd) s

/-- `inc` IX1 (`6C`, R167). -/
def execIncIx1 (ff : Byte) (s : State) : Result :=
  runRmw incHandler (.ix1 ff) s

/-- `inc` IX (`7C`, R167). -/
def execIncIx (s : State) : Result :=
  runRmw incHandler .ix s

/-- `deca` INH (`4A`, R168). -/
def execDeca (s : State) : Result :=
  runRmw decHandler .acc s

/-- `decx` INH (`5A`, R169). -/
def execDecx (s : State) : Result :=
  runRmw decHandler .index s

/-- `dec` DIR (`3A`, R170). -/
def execDecDir (dd : Byte) (s : State) : Result :=
  runRmw decHandler (.dir dd) s

/-- `dec` IX1 (`6A`, R170). -/
def execDecIx1 (ff : Byte) (s : State) : Result :=
  runRmw decHandler (.ix1 ff) s

/-- `dec` IX (`7A`, R170). -/
def execDecIx (s : State) : Result :=
  runRmw decHandler .ix s

/-- `cmp` IMM (`A1`, R172). -/
def execCmpImm (ii : Byte) (s : State) : Result :=
  runValue cmpHandler (.imm ii) s

/-- `cmp` DIR (`B1`, R172). -/
def execCmpDir (dd : Byte) (s : State) : Result :=
  runValue cmpHandler (.mem (.dir dd)) s

/-- `cmp` EXT (`C1`, R172). -/
def execCmpExt (hhll : Addr) (s : State) : Result :=
  runValue cmpHandler (.mem (.ext hhll)) s

/-- `cmp` IX2 (`D1`, R172). -/
def execCmpIx2 (eeff : BitVec 16) (s : State) : Result :=
  runValue cmpHandler (.mem (.ix2 eeff)) s

/-- `cmp` IX1 (`E1`, R172). -/
def execCmpIx1 (ff : Byte) (s : State) : Result :=
  runValue cmpHandler (.mem (.ix1 ff)) s

/-- `cmp` IX (`F1`, R172). -/
def execCmpIx (s : State) : Result :=
  runValue cmpHandler (.mem .ix) s

/-- `cpx` IMM (`A3`, R173). -/
def execCpxImm (ii : Byte) (s : State) : Result :=
  runValue cpxHandler (.imm ii) s

/-- `cpx` DIR (`B3`, R173). -/
def execCpxDir (dd : Byte) (s : State) : Result :=
  runValue cpxHandler (.mem (.dir dd)) s

/-- `cpx` EXT (`C3`, R173). -/
def execCpxExt (hhll : Addr) (s : State) : Result :=
  runValue cpxHandler (.mem (.ext hhll)) s

/-- `cpx` IX2 (`D3`, R173). -/
def execCpxIx2 (eeff : BitVec 16) (s : State) : Result :=
  runValue cpxHandler (.mem (.ix2 eeff)) s

/-- `cpx` IX1 (`E3`, R173). -/
def execCpxIx1 (ff : Byte) (s : State) : Result :=
  runValue cpxHandler (.mem (.ix1 ff)) s

/-- `cpx` IX (`F3`, R173). -/
def execCpxIx (s : State) : Result :=
  runValue cpxHandler (.mem .ix) s

/-- `tsta` INH (`4D`, R174). -/
def execTsta (s : State) : Result :=
  runTest .acc s

/-- `tstx` INH (`5D`, R175). -/
def execTstx (s : State) : Result :=
  runTest .index s

/-- `tst` DIR (`3D`, R176). -/
def execTstDir (dd : Byte) (s : State) : Result :=
  runTest (.dir dd) s

/-- `tst` IX1 (`6D`, R176). -/
def execTstIx1 (ff : Byte) (s : State) : Result :=
  runTest (.ix1 ff) s

/-- `tst` IX (`7D`, R176). -/
def execTstIx (s : State) : Result :=
  runTest .ix s

end Sys2Proof.Machine
end

