-- ==== Sys2Proof/Machine/Logic.lean ====
section
/-! DEFINITION. Logic: `and ora eor` (42_logic.md R110 to R112). -/

namespace Sys2Proof.Machine

/-- `and` (42_logic.md R110). -/
def andHandler (m : Byte) (s : State) : State :=
  let r := s.a &&& m
  { s.withNZ r with a := r }

/-- `ora` (42_logic.md R111). -/
def oraHandler (m : Byte) (s : State) : State :=
  let r := s.a ||| m
  { s.withNZ r with a := r }

/-- `eor` (42_logic.md R112). -/
def eorHandler (m : Byte) (s : State) : State :=
  let r := s.a ^^^ m
  { s.withNZ r with a := r }

/-- `and` IMM (`A4`, R110). -/
def execAndImm (ii : Byte) (s : State) : Result :=
  runValue andHandler (.imm ii) s

/-- `and` DIR (`B4`, R110). -/
def execAndDir (dd : Byte) (s : State) : Result :=
  runValue andHandler (.mem (.dir dd)) s

/-- `and` EXT (`C4`, R110). -/
def execAndExt (hhll : Addr) (s : State) : Result :=
  runValue andHandler (.mem (.ext hhll)) s

/-- `and` IX2 (`D4`, R110). -/
def execAndIx2 (eeff : BitVec 16) (s : State) : Result :=
  runValue andHandler (.mem (.ix2 eeff)) s

/-- `and` IX1 (`E4`, R110). -/
def execAndIx1 (ff : Byte) (s : State) : Result :=
  runValue andHandler (.mem (.ix1 ff)) s

/-- `and` IX (`F4`, R110). -/
def execAndIx (s : State) : Result :=
  runValue andHandler (.mem .ix) s

/-- `ora` IMM (`AA`, R111). -/
def execOraImm (ii : Byte) (s : State) : Result :=
  runValue oraHandler (.imm ii) s

/-- `ora` DIR (`BA`, R111). -/
def execOraDir (dd : Byte) (s : State) : Result :=
  runValue oraHandler (.mem (.dir dd)) s

/-- `ora` EXT (`CA`, R111). -/
def execOraExt (hhll : Addr) (s : State) : Result :=
  runValue oraHandler (.mem (.ext hhll)) s

/-- `ora` IX2 (`DA`, R111). -/
def execOraIx2 (eeff : BitVec 16) (s : State) : Result :=
  runValue oraHandler (.mem (.ix2 eeff)) s

/-- `ora` IX1 (`EA`, R111). -/
def execOraIx1 (ff : Byte) (s : State) : Result :=
  runValue oraHandler (.mem (.ix1 ff)) s

/-- `ora` IX (`FA`, R111). -/
def execOraIx (s : State) : Result :=
  runValue oraHandler (.mem .ix) s

/-- `eor` IMM (`A8`, R112). -/
def execEorImm (ii : Byte) (s : State) : Result :=
  runValue eorHandler (.imm ii) s

/-- `eor` DIR (`B8`, R112). -/
def execEorDir (dd : Byte) (s : State) : Result :=
  runValue eorHandler (.mem (.dir dd)) s

/-- `eor` EXT (`C8`, R112). -/
def execEorExt (hhll : Addr) (s : State) : Result :=
  runValue eorHandler (.mem (.ext hhll)) s

/-- `eor` IX2 (`D8`, R112). -/
def execEorIx2 (eeff : BitVec 16) (s : State) : Result :=
  runValue eorHandler (.mem (.ix2 eeff)) s

/-- `eor` IX1 (`E8`, R112). -/
def execEorIx1 (ff : Byte) (s : State) : Result :=
  runValue eorHandler (.mem (.ix1 ff)) s

/-- `eor` IX (`F8`, R112). -/
def execEorIx (s : State) : Result :=
  runValue eorHandler (.mem .ix) s

end Sys2Proof.Machine
end

