-- ==== Sys2Proof/Machine/Shift.lean ====
section
/-! DEFINITION. Shifts and rotates by one bit: `lsl lsr asr rol ror` on `a`, `x` and memory (44_shift_rotate.md R130 to R147). -/

namespace Sys2Proof.Machine

/-- What the whole family writes: `NZ(r)`, and `C` is the bit displaced (44_shift_rotate.md R130). -/
def shiftOut (r : Byte) (displaced : Bool) (s : State) : Byte × State :=
  (r, { s.withNZ r with flagC := displaced })

/-- `LSL(v)` (44_shift_rotate.md R130). -/
def lslHandler (v : Byte) (s : State) : Byte × State :=
  shiftOut (v <<< 1) (v.getLsbD 7) s

/-- `LSR(v)` (44_shift_rotate.md R130). -/
def lsrHandler (v : Byte) (s : State) : Byte × State :=
  shiftOut (v >>> 1) (v.getLsbD 0) s

/-- `ASR(v)` (44_shift_rotate.md R130): bit 7 is preserved. -/
def asrHandler (v : Byte) (s : State) : Byte × State :=
  shiftOut ((v >>> 1) ||| (v &&& 0x80)) (v.getLsbD 0) s

/-- The bit that enters a rotate's vacated place: the displaced bit, or the old `C` where `ROTATE_THROUGH_CARRY` is set
(44_shift_rotate.md R131; log 6). -/
def rotateIn (displaced : Bool) (s : State) : Bool :=
  if s.cfg.rotateThroughCarry then s.flagC else displaced

/-- `ROL(v)` (44_shift_rotate.md R130, R131). -/
def rolHandler (v : Byte) (s : State) : Byte × State :=
  shiftOut ((v <<< 1) ||| BitVec.ofNat 8 (bitNat (rotateIn (v.getLsbD 7) s))) (v.getLsbD 7) s

/-- `ROR(v)` (44_shift_rotate.md R130, R131). -/
def rorHandler (v : Byte) (s : State) : Byte × State :=
  shiftOut ((v >>> 1) ||| (BitVec.ofNat 8 (bitNat (rotateIn (v.getLsbD 0) s)) <<< 7)) (v.getLsbD 0) s

/-- `lsla` INH (`48`, R133). -/
def execLsla (s : State) : Result :=
  runRmw lslHandler .acc s

/-- `lslx` INH (`58`, R134). -/
def execLslx (s : State) : Result :=
  runRmw lslHandler .index s

/-- `lsl` DIR (`38`, R135). -/
def execLslDir (dd : Byte) (s : State) : Result :=
  runRmw lslHandler (.dir dd) s

/-- `lsl` IX1 (`68`, R135). -/
def execLslIx1 (ff : Byte) (s : State) : Result :=
  runRmw lslHandler (.ix1 ff) s

/-- `lsl` IX (`78`, R135). -/
def execLslIx (s : State) : Result :=
  runRmw lslHandler .ix s

/-- `lsra` INH (`44`, R136). -/
def execLsra (s : State) : Result :=
  runRmw lsrHandler .acc s

/-- `lsrx` INH (`54`, R137). -/
def execLsrx (s : State) : Result :=
  runRmw lsrHandler .index s

/-- `lsr` DIR (`34`, R138). -/
def execLsrDir (dd : Byte) (s : State) : Result :=
  runRmw lsrHandler (.dir dd) s

/-- `lsr` IX1 (`64`, R138). -/
def execLsrIx1 (ff : Byte) (s : State) : Result :=
  runRmw lsrHandler (.ix1 ff) s

/-- `lsr` IX (`74`, R138). -/
def execLsrIx (s : State) : Result :=
  runRmw lsrHandler .ix s

/-- `asra` INH (`47`, R139). -/
def execAsra (s : State) : Result :=
  runRmw asrHandler .acc s

/-- `asrx` INH (`57`, R140). -/
def execAsrx (s : State) : Result :=
  runRmw asrHandler .index s

/-- `asr` DIR (`37`, R141). -/
def execAsrDir (dd : Byte) (s : State) : Result :=
  runRmw asrHandler (.dir dd) s

/-- `asr` IX1 (`67`, R141). -/
def execAsrIx1 (ff : Byte) (s : State) : Result :=
  runRmw asrHandler (.ix1 ff) s

/-- `asr` IX (`77`, R141). -/
def execAsrIx (s : State) : Result :=
  runRmw asrHandler .ix s

/-- `rola` INH (`49`, R142). -/
def execRola (s : State) : Result :=
  runRmw rolHandler .acc s

/-- `rolx` INH (`59`, R143). -/
def execRolx (s : State) : Result :=
  runRmw rolHandler .index s

/-- `rol` DIR (`39`, R144). -/
def execRolDir (dd : Byte) (s : State) : Result :=
  runRmw rolHandler (.dir dd) s

/-- `rol` IX1 (`69`, R144). -/
def execRolIx1 (ff : Byte) (s : State) : Result :=
  runRmw rolHandler (.ix1 ff) s

/-- `rol` IX (`79`, R144). -/
def execRolIx (s : State) : Result :=
  runRmw rolHandler .ix s

/-- `rora` INH (`46`, R145). -/
def execRora (s : State) : Result :=
  runRmw rorHandler .acc s

/-- `rorx` INH (`56`, R146). -/
def execRorx (s : State) : Result :=
  runRmw rorHandler .index s

/-- `ror` DIR (`36`, R147). -/
def execRorDir (dd : Byte) (s : State) : Result :=
  runRmw rorHandler (.dir dd) s

/-- `ror` IX1 (`66`, R147). -/
def execRorIx1 (ff : Byte) (s : State) : Result :=
  runRmw rorHandler (.ix1 ff) s

/-- `ror` IX (`76`, R147). -/
def execRorIx (s : State) : Result :=
  runRmw rorHandler .ix s

end Sys2Proof.Machine
end

