-- ==== Sys2Proof/Machine/Dispatch.lean ====
section
/-! DEFINITION. One arm per constructor of `Instr`, in the order of spec/opcode_table.json: each calls its meaning. -/

namespace Sys2Proof.Machine

/-- The effect of one instruction whose opcode byte stands at `pc` (40_dispatch_addressing.md R80, steps 3 to 5). -/
def exec (i : Instr) (s : State) : Host.Outcome State Fault Refusal :=
  match i with
  | .brset0 dd rr => Sys2Proof.Machine.execBrset0 dd rr s
  | .brclr0 dd rr => Sys2Proof.Machine.execBrclr0 dd rr s
  | .brset1 dd rr => Sys2Proof.Machine.execBrset1 dd rr s
  | .brclr1 dd rr => Sys2Proof.Machine.execBrclr1 dd rr s
  | .brset2 dd rr => Sys2Proof.Machine.execBrset2 dd rr s
  | .brclr2 dd rr => Sys2Proof.Machine.execBrclr2 dd rr s
  | .brset3 dd rr => Sys2Proof.Machine.execBrset3 dd rr s
  | .brclr3 dd rr => Sys2Proof.Machine.execBrclr3 dd rr s
  | .brset4 dd rr => Sys2Proof.Machine.execBrset4 dd rr s
  | .brclr4 dd rr => Sys2Proof.Machine.execBrclr4 dd rr s
  | .brset5 dd rr => Sys2Proof.Machine.execBrset5 dd rr s
  | .brclr5 dd rr => Sys2Proof.Machine.execBrclr5 dd rr s
  | .brset6 dd rr => Sys2Proof.Machine.execBrset6 dd rr s
  | .brclr6 dd rr => Sys2Proof.Machine.execBrclr6 dd rr s
  | .brset7 dd rr => Sys2Proof.Machine.execBrset7 dd rr s
  | .brclr7 dd rr => Sys2Proof.Machine.execBrclr7 dd rr s
  | .bset0 dd => Sys2Proof.Machine.execBset0 dd s
  | .bclr0 dd => Sys2Proof.Machine.execBclr0 dd s
  | .bset1 dd => Sys2Proof.Machine.execBset1 dd s
  | .bclr1 dd => Sys2Proof.Machine.execBclr1 dd s
  | .bset2 dd => Sys2Proof.Machine.execBset2 dd s
  | .bclr2 dd => Sys2Proof.Machine.execBclr2 dd s
  | .bset3 dd => Sys2Proof.Machine.execBset3 dd s
  | .bclr3 dd => Sys2Proof.Machine.execBclr3 dd s
  | .bset4 dd => Sys2Proof.Machine.execBset4 dd s
  | .bclr4 dd => Sys2Proof.Machine.execBclr4 dd s
  | .bset5 dd => Sys2Proof.Machine.execBset5 dd s
  | .bclr5 dd => Sys2Proof.Machine.execBclr5 dd s
  | .bset6 dd => Sys2Proof.Machine.execBset6 dd s
  | .bclr6 dd => Sys2Proof.Machine.execBclr6 dd s
  | .bset7 dd => Sys2Proof.Machine.execBset7 dd s
  | .bclr7 dd => Sys2Proof.Machine.execBclr7 dd s
  | .bra rr => Sys2Proof.Machine.execBra rr s
  | .brn rr => Sys2Proof.Machine.execBrn rr s
  | .bhi rr => Sys2Proof.Machine.execBhi rr s
  | .bls rr => Sys2Proof.Machine.execBls rr s
  | .bcc rr => Sys2Proof.Machine.execBcc rr s
  | .bcs rr => Sys2Proof.Machine.execBcs rr s
  | .bne rr => Sys2Proof.Machine.execBne rr s
  | .beq rr => Sys2Proof.Machine.execBeq rr s
  | .bhcc rr => Sys2Proof.Machine.execBhcc rr s
  | .bhcs rr => Sys2Proof.Machine.execBhcs rr s
  | .bpl rr => Sys2Proof.Machine.execBpl rr s
  | .bmi rr => Sys2Proof.Machine.execBmi rr s
  | .bmc rr => Sys2Proof.Machine.execBmc rr s
  | .bms rr => Sys2Proof.Machine.execBms rr s
  | .negDir dd => Sys2Proof.Machine.execNegDir dd s
  | .comDir dd => Sys2Proof.Machine.execComDir dd s
  | .lsrDir dd => Sys2Proof.Machine.execLsrDir dd s
  | .rorDir dd => Sys2Proof.Machine.execRorDir dd s
  | .asrDir dd => Sys2Proof.Machine.execAsrDir dd s
  | .lslDir dd => Sys2Proof.Machine.execLslDir dd s
  | .rolDir dd => Sys2Proof.Machine.execRolDir dd s
  | .decDir dd => Sys2Proof.Machine.execDecDir dd s
  | .incDir dd => Sys2Proof.Machine.execIncDir dd s
  | .tstDir dd => Sys2Proof.Machine.execTstDir dd s
  | .clrDir dd => Sys2Proof.Machine.execClrDir dd s
  | .nega => Sys2Proof.Machine.execNega s
  | .mul => Sys2Proof.Machine.execMul s
  | .coma => Sys2Proof.Machine.execComa s
  | .lsra => Sys2Proof.Machine.execLsra s
  | .rora => Sys2Proof.Machine.execRora s
  | .asra => Sys2Proof.Machine.execAsra s
  | .lsla => Sys2Proof.Machine.execLsla s
  | .rola => Sys2Proof.Machine.execRola s
  | .deca => Sys2Proof.Machine.execDeca s
  | .inca => Sys2Proof.Machine.execInca s
  | .tsta => Sys2Proof.Machine.execTsta s
  | .clra => Sys2Proof.Machine.execClra s
  | .negx => Sys2Proof.Machine.execNegx s
  | .comx => Sys2Proof.Machine.execComx s
  | .lsrx => Sys2Proof.Machine.execLsrx s
  | .rorx => Sys2Proof.Machine.execRorx s
  | .asrx => Sys2Proof.Machine.execAsrx s
  | .lslx => Sys2Proof.Machine.execLslx s
  | .rolx => Sys2Proof.Machine.execRolx s
  | .decx => Sys2Proof.Machine.execDecx s
  | .incx => Sys2Proof.Machine.execIncx s
  | .tstx => Sys2Proof.Machine.execTstx s
  | .clrx => Sys2Proof.Machine.execClrx s
  | .negIx1 ff => Sys2Proof.Machine.execNegIx1 ff s
  | .comIx1 ff => Sys2Proof.Machine.execComIx1 ff s
  | .lsrIx1 ff => Sys2Proof.Machine.execLsrIx1 ff s
  | .rorIx1 ff => Sys2Proof.Machine.execRorIx1 ff s
  | .asrIx1 ff => Sys2Proof.Machine.execAsrIx1 ff s
  | .lslIx1 ff => Sys2Proof.Machine.execLslIx1 ff s
  | .rolIx1 ff => Sys2Proof.Machine.execRolIx1 ff s
  | .decIx1 ff => Sys2Proof.Machine.execDecIx1 ff s
  | .incIx1 ff => Sys2Proof.Machine.execIncIx1 ff s
  | .tstIx1 ff => Sys2Proof.Machine.execTstIx1 ff s
  | .clrIx1 ff => Sys2Proof.Machine.execClrIx1 ff s
  | .negIx => Sys2Proof.Machine.execNegIx s
  | .comIx => Sys2Proof.Machine.execComIx s
  | .lsrIx => Sys2Proof.Machine.execLsrIx s
  | .rorIx => Sys2Proof.Machine.execRorIx s
  | .asrIx => Sys2Proof.Machine.execAsrIx s
  | .lslIx => Sys2Proof.Machine.execLslIx s
  | .rolIx => Sys2Proof.Machine.execRolIx s
  | .decIx => Sys2Proof.Machine.execDecIx s
  | .incIx => Sys2Proof.Machine.execIncIx s
  | .tstIx => Sys2Proof.Machine.execTstIx s
  | .clrIx => Sys2Proof.Machine.execClrIx s
  | .rti => Sys2Proof.Machine.execRti s
  | .rts => Sys2Proof.Machine.execRts s
  | .swi => Sys2Proof.Machine.execSwi s
  | .stop => Sys2Proof.Machine.execStop s
  | .wait => Sys2Proof.Machine.execWait s
  | .tax => Sys2Proof.Machine.execTax s
  | .clc => Sys2Proof.Machine.execClc s
  | .sec => Sys2Proof.Machine.execSec s
  | .cli => Sys2Proof.Machine.execCli s
  | .sei => Sys2Proof.Machine.execSei s
  | .rsp => Sys2Proof.Machine.execRsp s
  | .txa => Sys2Proof.Machine.execTxa s
  | .subImm ii => Sys2Proof.Machine.execSubImm ii s
  | .cmpImm ii => Sys2Proof.Machine.execCmpImm ii s
  | .sbcImm ii => Sys2Proof.Machine.execSbcImm ii s
  | .cpxImm ii => Sys2Proof.Machine.execCpxImm ii s
  | .andImm ii => Sys2Proof.Machine.execAndImm ii s
  | .ldaImm ii => Sys2Proof.Machine.execLdaImm ii s
  | .eorImm ii => Sys2Proof.Machine.execEorImm ii s
  | .adcImm ii => Sys2Proof.Machine.execAdcImm ii s
  | .oraImm ii => Sys2Proof.Machine.execOraImm ii s
  | .addImm ii => Sys2Proof.Machine.execAddImm ii s
  | .bsr rr => Sys2Proof.Machine.execBsr rr s
  | .ldxImm ii => Sys2Proof.Machine.execLdxImm ii s
  | .subDir dd => Sys2Proof.Machine.execSubDir dd s
  | .cmpDir dd => Sys2Proof.Machine.execCmpDir dd s
  | .sbcDir dd => Sys2Proof.Machine.execSbcDir dd s
  | .cpxDir dd => Sys2Proof.Machine.execCpxDir dd s
  | .andDir dd => Sys2Proof.Machine.execAndDir dd s
  | .ldaDir dd => Sys2Proof.Machine.execLdaDir dd s
  | .staDir dd => Sys2Proof.Machine.execStaDir dd s
  | .eorDir dd => Sys2Proof.Machine.execEorDir dd s
  | .adcDir dd => Sys2Proof.Machine.execAdcDir dd s
  | .oraDir dd => Sys2Proof.Machine.execOraDir dd s
  | .addDir dd => Sys2Proof.Machine.execAddDir dd s
  | .jmpDir dd => Sys2Proof.Machine.execJmpDir dd s
  | .jsrDir dd => Sys2Proof.Machine.execJsrDir dd s
  | .ldxDir dd => Sys2Proof.Machine.execLdxDir dd s
  | .stxDir dd => Sys2Proof.Machine.execStxDir dd s
  | .subExt hhll => Sys2Proof.Machine.execSubExt hhll s
  | .cmpExt hhll => Sys2Proof.Machine.execCmpExt hhll s
  | .sbcExt hhll => Sys2Proof.Machine.execSbcExt hhll s
  | .cpxExt hhll => Sys2Proof.Machine.execCpxExt hhll s
  | .andExt hhll => Sys2Proof.Machine.execAndExt hhll s
  | .ldaExt hhll => Sys2Proof.Machine.execLdaExt hhll s
  | .staExt hhll => Sys2Proof.Machine.execStaExt hhll s
  | .eorExt hhll => Sys2Proof.Machine.execEorExt hhll s
  | .adcExt hhll => Sys2Proof.Machine.execAdcExt hhll s
  | .oraExt hhll => Sys2Proof.Machine.execOraExt hhll s
  | .addExt hhll => Sys2Proof.Machine.execAddExt hhll s
  | .jmpExt hhll => Sys2Proof.Machine.execJmpExt hhll s
  | .jsrExt hhll => Sys2Proof.Machine.execJsrExt hhll s
  | .ldxExt hhll => Sys2Proof.Machine.execLdxExt hhll s
  | .stxExt hhll => Sys2Proof.Machine.execStxExt hhll s
  | .subIx2 eeff => Sys2Proof.Machine.execSubIx2 eeff s
  | .cmpIx2 eeff => Sys2Proof.Machine.execCmpIx2 eeff s
  | .sbcIx2 eeff => Sys2Proof.Machine.execSbcIx2 eeff s
  | .cpxIx2 eeff => Sys2Proof.Machine.execCpxIx2 eeff s
  | .andIx2 eeff => Sys2Proof.Machine.execAndIx2 eeff s
  | .ldaIx2 eeff => Sys2Proof.Machine.execLdaIx2 eeff s
  | .staIx2 eeff => Sys2Proof.Machine.execStaIx2 eeff s
  | .eorIx2 eeff => Sys2Proof.Machine.execEorIx2 eeff s
  | .adcIx2 eeff => Sys2Proof.Machine.execAdcIx2 eeff s
  | .oraIx2 eeff => Sys2Proof.Machine.execOraIx2 eeff s
  | .addIx2 eeff => Sys2Proof.Machine.execAddIx2 eeff s
  | .jmpIx2 eeff => Sys2Proof.Machine.execJmpIx2 eeff s
  | .jsrIx2 eeff => Sys2Proof.Machine.execJsrIx2 eeff s
  | .ldxIx2 eeff => Sys2Proof.Machine.execLdxIx2 eeff s
  | .stxIx2 eeff => Sys2Proof.Machine.execStxIx2 eeff s
  | .subIx1 ff => Sys2Proof.Machine.execSubIx1 ff s
  | .cmpIx1 ff => Sys2Proof.Machine.execCmpIx1 ff s
  | .sbcIx1 ff => Sys2Proof.Machine.execSbcIx1 ff s
  | .cpxIx1 ff => Sys2Proof.Machine.execCpxIx1 ff s
  | .andIx1 ff => Sys2Proof.Machine.execAndIx1 ff s
  | .ldaIx1 ff => Sys2Proof.Machine.execLdaIx1 ff s
  | .staIx1 ff => Sys2Proof.Machine.execStaIx1 ff s
  | .eorIx1 ff => Sys2Proof.Machine.execEorIx1 ff s
  | .adcIx1 ff => Sys2Proof.Machine.execAdcIx1 ff s
  | .oraIx1 ff => Sys2Proof.Machine.execOraIx1 ff s
  | .addIx1 ff => Sys2Proof.Machine.execAddIx1 ff s
  | .jmpIx1 ff => Sys2Proof.Machine.execJmpIx1 ff s
  | .jsrIx1 ff => Sys2Proof.Machine.execJsrIx1 ff s
  | .ldxIx1 ff => Sys2Proof.Machine.execLdxIx1 ff s
  | .stxIx1 ff => Sys2Proof.Machine.execStxIx1 ff s
  | .subIx => Sys2Proof.Machine.execSubIx s
  | .cmpIx => Sys2Proof.Machine.execCmpIx s
  | .sbcIx => Sys2Proof.Machine.execSbcIx s
  | .cpxIx => Sys2Proof.Machine.execCpxIx s
  | .andIx => Sys2Proof.Machine.execAndIx s
  | .ldaIx => Sys2Proof.Machine.execLdaIx s
  | .staIx => Sys2Proof.Machine.execStaIx s
  | .eorIx => Sys2Proof.Machine.execEorIx s
  | .adcIx => Sys2Proof.Machine.execAdcIx s
  | .oraIx => Sys2Proof.Machine.execOraIx s
  | .addIx => Sys2Proof.Machine.execAddIx s
  | .jmpIx => Sys2Proof.Machine.execJmpIx s
  | .jsrIx => Sys2Proof.Machine.execJsrIx s
  | .ldxIx => Sys2Proof.Machine.execLdxIx s

end Sys2Proof.Machine
end

