-- ==== Sys2Proof/Machine/Fetch.lean ====
section
/-! DEFINITION. Fetching the instruction at `pc` (40_dispatch_addressing.md R80 steps 1 to 3) and placing one there. -/

namespace Sys2Proof.Machine

/-- How many operand bytes follow an opcode byte under a table; an unassigned one has none fetched (30_encoding.md R68, R69). -/
def operandCount (t : OpTable) (opcode : Byte) : Nat :=
  match t.lookup opcode with
  | none => 0
  | some d => d.format.operandBytes

/-- The `n` bytes from `addr` on, each address modulo 65536 (10_state.md R16, 20_memory.md R48). -/
def readBytes (s : State) (addr : Addr) : Nat → List Byte
  | 0 => []
  | n + 1 => s.memRead addr :: readBytes s (addr + 1) n

/-- The opcode byte at `pc` and the operand bytes it calls for, in ascending address order (20_memory.md R54). -/
def fetchBytes (s : State) : List Byte :=
  let opcode := s.memRead s.pc
  opcode :: readBytes s (s.pc + 1) (operandCount s.cfg.optab opcode)

/-- Fetch and decode under the machine's table (40_dispatch_addressing.md R80, R81; 20_memory.md R52). -/
def fetchDecode (s : State) : Except DecodeError Instr :=
  match decode s.cfg.optab (fetchBytes s) with
  | .ok (i, _) => .ok i
  | .error e => .error e

/-- Writes bytes from `addr` on, each address modulo 65536. -/
def writeBytes (s : State) (addr : Addr) : List Byte → State
  | [] => s
  | b :: rest => writeBytes (s.memWrite addr b) (addr + 1) rest

/-- The bytes placed where the next fetch reads, and the latch cleared, because an engine with the latch set fetches nothing
(60_exceptions.md R232; log 16). -/
def placeAtPc (s : State) (bytes : List Byte) : State :=
  { writeBytes s s.pc bytes with fault := none }

end Sys2Proof.Machine
end

