-- ==== Sys2Proof/Machine/Step.lean ====
section
/-! DEFINITION. One step of the engine (40_dispatch_addressing.md R80, R85; 60_exceptions.md R231, R232). -/

namespace Sys2Proof.Machine

/-- One step request. With the latch set the engine takes no step and reports the fault again (60_exceptions.md R232). Otherwise it
fetches and decodes at `pc` and runs the instruction; an unassigned opcode byte sets the latch and changes nothing else
(60_exceptions.md R231; log 5). -/
def step (s : State) : Host.Outcome State Fault Refusal :=
  match s.fault with
  | some latched => .fault (.halted latched)
  | none =>
    match fetchDecode s with
    | .ok i => exec i s
    | .error _ => .next (s.latchUnknownOpcode (s.memRead s.pc))

/-- `s` with an opcode-table word stored at `pc`, where `step` fetches its next instruction (log 16). -/
def State.withFetchWord (s : State) (nbits w : Nat) : State :=
  placeAtPc s (tableWordBytes nbits w)

end Sys2Proof.Machine
end

