-- ==== Sys2Proof/Machine/HostPort.lean ====
section
/-! DEFINITION. The host port (70_reset_and_hazards.md R250, R255 to R258): what the host may do between steps. A request is
answered by the next state or by a refusal that changes nothing. -/

namespace Sys2Proof.Machine

/-- The host's reset: every piece of state to its reset value, the parameters as they are (70_reset_and_hazards.md R250). -/
def hostReset (s : State) : State := State.resetWith s.cfg

/-- `load_program(start, bytes)`: writes the bytes in ascending order; refused, with nothing written, when `start` is no address or
the program runs past `0xFFFF` (70_reset_and_hazards.md R256; log 17). -/
def loadProgram (start : Nat) (bytes : List Byte) (s : State) : Result :=
  if start < 65536 ∧ start + bytes.length ≤ 65536 then
    .next (writeBytes s (BitVec.ofNat 16 start) bytes)
  else
    .refused (.loadPastEnd start bytes.length)

/-- Presets `a`; a value above 255 is refused (70_reset_and_hazards.md R257). -/
def presetA (v : Nat) (s : State) : Result :=
  if v < 256 then .next { s with a := BitVec.ofNat 8 v } else .refused (.registerWidthViolation v)

/-- Presets `x`; a value above 255 is refused (70_reset_and_hazards.md R257). -/
def presetX (v : Nat) (s : State) : Result :=
  if v < 256 then .next { s with x := BitVec.ofNat 8 v } else .refused (.registerWidthViolation v)

/-- Presets `pc`; a value above 65535 is refused (70_reset_and_hazards.md R257). -/
def presetPc (v : Nat) (s : State) : Result :=
  if v < 65536 then .next { s with pc := BitVec.ofNat 16 v } else .refused (.registerWidthViolation v)

/-- The five flags by name, for `presetFlag` (10_state.md R17). -/
inductive FlagName where
  | carry | zero | negative | halfCarry | interruptMask
  deriving DecidableEq, Repr

/-- Presets one flag; a value above 1 is refused (70_reset_and_hazards.md R257). -/
def presetFlag (f : FlagName) (v : Nat) (s : State) : Result :=
  if v < 2 then
    match f with
    | .carry => .next { s with flagC := v == 1 }
    | .zero => .next { s with flagZ := v == 1 }
    | .negative => .next { s with flagN := v == 1 }
    | .halfCarry => .next { s with flagH := v == 1 }
    | .interruptMask => .next { s with flagI := v == 1 }
  else
    .refused (.registerWidthViolation v)

/-- What the host's accessors show between steps (70_reset_and_hazards.md R258); a memory byte is read by `State.memRead`. -/
structure Inspection where
  a : Byte
  x : Byte
  pc : Addr
  sp : Addr
  flagC : Bool
  flagZ : Bool
  flagN : Bool
  flagH : Bool
  flagI : Bool
  fault : Option FaultRecord
  deriving DecidableEq, Repr

/-- The pure accessors of 70_reset_and_hazards.md R258, together; `fault` is the fault output of 60_exceptions.md R230. -/
def inspect (s : State) : Inspection where
  a := s.a
  x := s.x
  pc := s.pc
  sp := s.sp
  flagC := s.flagC
  flagZ := s.flagZ
  flagN := s.flagN
  flagH := s.flagH
  flagI := s.flagI
  fault := s.fault

end Sys2Proof.Machine
end

