-- ==== Sys2Proof/Safety.lean ====
section
/-! DEFINITION. What counts as a safe state, and the terms the statements use: the invariant, frames over memory, the classes of
instructions that the whole-machine rules name, and the rows and columns of the opcode map as byte lists. -/

namespace Sys2Proof.Machine

/-- The invariant of the machine. It holds of every state a run from reset reaches. -/
structure StateInv (s : State) : Prop where
  /-- The parameters meet the constraints of 00_scope.md R4. -/
  cfg_wf : s.cfg.wf = true
  /-- Memory is in its canonical form (log 15). -/
  mem_wf : Memory.wf s.cfg.fill s.mem = true
  /-- "`sp` is always within `[bottom, top]`" (10_state.md R28), lower bound. -/
  sp_ge : stackBottom s.cfg ≤ s.sp.toNat
  /-- "`sp` is always within `[bottom, top]`" (10_state.md R28), upper bound. -/
  sp_le : s.sp.toNat ≤ s.cfg.stackTop.toNat
  /-- The ring has exactly `STACK_SIZE` cells (10_state.md R24). -/
  ring_len : s.ring.length = s.cfg.stackSize
  /-- Only `UnknownOpcode`, for a byte with no table entry, is ever latched (60_exceptions.md R233, R234). -/
  latch_unknown : ∀ r, s.fault = some r → r.cause = .unknownOpcode ∧ s.cfg.optab.lookup r.opcode = none

/-- No byte of memory differs. -/
def memSame (s t : State) : Prop := ∀ addr, t.memRead addr = s.memRead addr

/-- No byte of memory outside the address `ea` differs. -/
def memSameExcept (ea : Addr) (s t : State) : Prop := ∀ addr, addr ≠ ea → t.memRead addr = s.memRead addr

/-- `N` and `Z` of `t` are those of the result `r` (10_state.md R21). -/
def hasNZ (t : State) (r : Byte) : Prop :=
  (t.flagN = true ↔ 128 ≤ r.toNat) ∧ (t.flagZ = true ↔ r.toNat = 0)

/-- `t` is `s` after writing `r` to the read-modify-write operand `o`, as far as `a`, `x` and memory go: a memory form stores to
the one address `rmwAddr s.x o`. -/
def wroteOperand (o : RmwOperand) (r : Byte) (s t : State) : Prop :=
  t.a = (if o = .acc then r else s.a) ∧
  t.x = (if o = .index then r else s.x) ∧
  match rmwAddr s.x o with
  | none => memSame s t ∧ t.mem = s.mem
  | some ea => t.memRead ea = r ∧ memSameExcept ea s t

/-- Pushes the bytes of a list in order. -/
def pushAll : List Byte → State → State
  | [], s => s
  | v :: vs, s => pushAll vs (push v s)

/-- Pops `n` bytes; the first popped comes first. -/
def popAll : Nat → State → List Byte × State
  | 0, s => ([], s)
  | n + 1, s =>
    let (v, s₁) := pop s
    let (vs, s₂) := popAll n s₁
    (v :: vs, s₂)

/-- `u` has the stack and the parameters of `t`; everything else may differ. -/
def sameStack (t u : State) : Prop := u.sp = t.sp ∧ u.ring = t.ring ∧ u.cfg = t.cfg

/-- The instructions that 20_memory.md R57 lists as changing memory. -/
def StoresMemory (i : Instr) : Prop :=
  (∃ o, i = .ofSta o) ∨ (∃ o, Instr.ofStx o = some i) ∨
  (∃ op o, o ≠ .acc ∧ o ≠ .index ∧ i = .ofRmw op o) ∨
  (∃ o, o ≠ .acc ∧ o ≠ .index ∧ i = .ofClr o) ∨
  (∃ n dd, i = .ofBset n dd ∨ i = .ofBclr n dd)

/-- The instructions that 10_state.md R25 lists as reaching the ring: `bsr jsr rts swi rti`. -/
def ReachesRing (i : Instr) : Prop :=
  (∃ rr, i = .bsr rr) ∨ (∃ o, i = .ofJsr o) ∨ i = .rts ∨ i = .swi ∨ i = .rti

/-- The instructions that 10_state.md R15 lists as redirecting, taken or not. -/
def MayRedirect (i : Instr) : Prop :=
  (∃ op rr, i = .ofBranch op rr) ∨ (∃ n dd rr, i = .ofBrset n dd rr ∨ i = .ofBrclr n dd rr) ∨
  (∃ rr, i = .bsr rr) ∨ (∃ o, i = .ofJsr o ∨ i = .ofJmp o) ∨ i = .rts ∨ i = .rti ∨ i = .swi

/-- The instructions with a `w` or a forced value under `C` in the table of 10_state.md R23. -/
def WritesC (i : Instr) : Prop :=
  (∃ op o, op ∈ [ValueOp.add, .adc, .sub, .sbc] ∧ i = .ofValue op o) ∨
  (∃ op o, op ∉ [RmwOp.inc, .dec] ∧ i = .ofRmw op o) ∨ i = .rti ∨ i = .clc ∨ i = .sec

/-- The instructions with a `w` or a forced value under `N` and `Z` in the table of 10_state.md R23. -/
def WritesNZ (i : Instr) : Prop :=
  (∃ op o, i = .ofValue op o) ∨ (∃ op o, i = .ofRmw op o) ∨ (∃ o, i = .ofTst o ∨ i = .ofClr o) ∨
  (∃ o, i = .ofSta o) ∨ (∃ o, Instr.ofStx o = some i) ∨ i = .tax ∨ i = .txa ∨ i = .rti

/-- The instructions that can change `a` (10_state.md R11). -/
def WritesA (i : Instr) : Prop :=
  (∃ op o, op ∉ [ValueOp.ldx, .cmp, .cpx] ∧ i = .ofValue op o) ∨ (∃ op, i = .ofRmw op .acc) ∨
  i = .ofClr .acc ∨ i = .mul ∨ i = .txa ∨ i = .rti

/-- The instructions that can change `x` (10_state.md R12). -/
def WritesX (i : Instr) : Prop :=
  (∃ o, i = .ofValue .ldx o) ∨ (∃ op, i = .ofRmw op .index) ∨ i = .ofClr .index ∨ i = .tax ∨ i = .rti

/-- The byte `nibble` of a column of the opcode map (30_encoding.md R65). -/
def mapByte (column nibble : Nat) : Byte := BitVec.ofNat 8 (16 * column + nibble)

/-- Row `nibble` of the columns `0xB` to `0xF`: DIR, EXT, IX2, IX1, IX (30_encoding.md R65). -/
def addrBytes (nibble : Nat) : AddrOperand → List Byte
  | .dir dd => [mapByte 0xB nibble, dd]
  | .ext hhll => [mapByte 0xC nibble, highByte hhll, lowByte hhll]
  | .ix2 eeff => [mapByte 0xD nibble, highByte eeff, lowByte eeff]
  | .ix1 ff => [mapByte 0xE nibble, ff]
  | .ix => [mapByte 0xF nibble]

/-- Row `nibble` of the columns `0xA` to `0xF`: IMM, then the five memory modes (30_encoding.md R65). -/
def valueBytes (nibble : Nat) : ValueOperand → List Byte
  | .imm ii => [mapByte 0xA nibble, ii]
  | .mem o => addrBytes nibble o

/-- Row `nibble` of the columns `0x3` to `0x7`: DIR, `a`, `x`, IX1, IX (30_encoding.md R65). -/
def rmwBytes (nibble : Nat) : RmwOperand → List Byte
  | .dir dd => [mapByte 0x3 nibble, dd]
  | .acc => [mapByte 0x4 nibble]
  | .index => [mapByte 0x5 nibble]
  | .ix1 ff => [mapByte 0x6 nibble, ff]
  | .ix => [mapByte 0x7 nibble]

/-- The row of a branch in column `0x2` of the opcode map (30_encoding.md R65). -/
def branchNibble : BranchOp → Nat
  | .bra => 0x0
  | .brn => 0x1
  | .bhi => 0x2
  | .bls => 0x3
  | .bcc => 0x4
  | .bcs => 0x5
  | .bne => 0x6
  | .beq => 0x7
  | .bhcc => 0x8
  | .bhcs => 0x9
  | .bpl => 0xA
  | .bmi => 0xB
  | .bmc => 0xC
  | .bms => 0xD

/-- The table `t` assigns the opcode byte `opcode` to `i`: it has the mnemonic and format of `i` there, and, for a bit form, bits 3
to 1 of the byte are the bit number of `i`, which they are in its default encoding too (30_encoding.md R64 (c)). -/
def AssignedTo (t : OpTable) (i : Instr) (opcode : Byte) : Prop :=
  t.lookup opcode = some i.descriptor ∧
    (i.descriptor.hasBitNumber = true → bitNumber opcode = bitNumber ((encode i).headD 0))

/-- The 56 illegal opcode bytes of the default table, as 30_encoding.md R69 lists them. -/
def illegalBytes : List Byte :=
  [0x2E, 0x2F, 0x31, 0x32, 0x35, 0x3B, 0x3E, 0x41, 0x45, 0x4B, 0x4E, 0x51, 0x52, 0x55, 0x5B, 0x5E, 0x61, 0x62, 0x65, 0x6B,
   0x6E, 0x71, 0x72, 0x75, 0x7B, 0x7E] ++
  [0x82, 0x84, 0x85, 0x86, 0x87, 0x88, 0x89, 0x8A, 0x8B, 0x8C, 0x8D, 0x90, 0x91, 0x92, 0x93, 0x94, 0x95, 0x96, 0x9D, 0x9E,
   0xA5, 0xA7, 0xAC, 0xAF, 0xB5, 0xC5, 0xD5, 0xE5, 0xF5, 0xFF]

/-- The condition of each branch (48_branches.md R190, table; log 9). -/
def branchTaken : BranchOp → State → Prop
  | .bra, _ => True
  | .brn, _ => False
  | .bhi, s => s.flagC = false ∧ s.flagZ = false
  | .bls, s => s.flagC = true ∨ s.flagZ = true
  | .bcc, s => s.flagC = false
  | .bcs, s => s.flagC = true
  | .bne, s => s.flagZ = false
  | .beq, s => s.flagZ = true
  | .bhcc, s => s.flagH = false
  | .bhcs, s => s.flagH = true
  | .bpl, s => s.flagN = false
  | .bmi, s => s.flagN = true
  | .bmc, s => s.flagI = false
  | .bms, s => s.flagI = true

end Sys2Proof.Machine
end

