-- ==== Sys2Proof/Certificates/Slice0/Obligations.lean ====
section
/-! DEFINITION. The statements for the provers. Each result statement says that `exec` answers a next state `t`, gives every value the
rule gives, and frames the rest: `t = { s with … := t.… }` lists the fields that may differ, and every field not listed (the
flags and registers not named, memory, ring, latch, parameters) is that of `s`. Each holds for every value of the open
parameters, which stand in `s.cfg`. -/

open Sys2Proof
open Sys2Proof.Machine

/-! ## Encoding and the step -/

/-- With no fault latched and the bytes at `pc` decoding to `i` under the machine's table, the step is `exec` of `i`: nothing is added around it, the meaning
itself writes `pc` (40_dispatch_addressing.md R80). -/
def Obligations.StepRunsDecodedInstruction : Prop :=
  ∀ (s : State) (i : Instr) (rest : List Byte), s.fault = none → i.wf = true →
    decode s.cfg.optab [s.memRead s.pc, s.memRead (s.pc + 1), s.memRead (s.pc + 2)] = .ok (i, rest) →
    step s = exec i s

/-- Words of every family and every format, written out from the default map, decode to the instruction they stand for (30_encoding.md
R61, R65; the map is the spec's default, log 4); and under every table that meets the constraints of R64, `A0` is `sub` IMM and
`FF` is refused (R73). -/
def Obligations.SampleWordsDecode : Prop :=
  (decode defaultOptab [0xAB, 0x05] = .ok (.addImm 0x05, []) ∧
    decode defaultOptab [0x42] = .ok (.mul, []) ∧
    decode defaultOptab [0xB4, 0x80] = .ok (.andDir 0x80, []) ∧
    decode defaultOptab [0xF8] = .ok (.eorIx, []) ∧
    decode defaultOptab [0x43] = .ok (.coma, []) ∧
    decode defaultOptab [0x60, 0x10] = .ok (.negIx1 0x10, []) ∧
    decode defaultOptab [0x37, 0x80] = .ok (.asrDir 0x80, []) ∧
    decode defaultOptab [0x56] = .ok (.rorx, []) ∧
    decode defaultOptab [0xC6, 0x12, 0x34] = .ok (.ldaExt 0x1234, []) ∧
    decode defaultOptab [0xD7, 0x12, 0x34] = .ok (.staIx2 0x1234, []) ∧
    decode defaultOptab [0xE6, 0x10] = .ok (.ldaIx1 0x10, []) ∧
    decode defaultOptab [0x97] = .ok (.tax, []) ∧
    decode defaultOptab [0x7F] = .ok (.clrIx, []) ∧
    decode defaultOptab [0x3A, 0x80] = .ok (.decDir 0x80, []) ∧
    decode defaultOptab [0xA3, 0x05] = .ok (.cpxImm 0x05, []) ∧
    decode defaultOptab [0x4D] = .ok (.tsta, []) ∧
    decode defaultOptab [0x16, 0x80] = .ok (.bset3 0x80, []) ∧
    decode defaultOptab [0x01, 0x80, 0xFB] = .ok (.brclr0 0x80 0xFB, []) ∧
    decode defaultOptab [0x26, 0xF9] = .ok (.bne 0xF9, []) ∧
    decode defaultOptab [0xAD, 0x10] = .ok (.bsr 0x10, []) ∧
    decode defaultOptab [0xFD] = .ok (.jsrIx, []) ∧
    decode defaultOptab [0x83] = .ok (.swi, []) ∧
    decode defaultOptab [0x9B] = .ok (.sei, []) ∧
    decode defaultOptab [0x8E] = .ok (.stop, [])) ∧
  ∀ (c : Config) (ii : Byte) (rest : List Byte), c.wf = true →
    decode c.optab (0xA0 :: ii :: rest) = .ok (.subImm ii, rest) ∧
    decode c.optab (0xFF :: rest) = .error (.unknownOpcode 0xFF)

/-- Decoding an encoded instruction gives it back, with every operand, and leaves the bytes after it: under the default table, and,
behind whatever opcode byte a table assigns to it, under that table. -/
def Obligations.DecodeEncodeRoundTrip : Prop :=
  ∀ (i : Instr) (rest : List Byte), i.wf = true →
    decode defaultOptab (encode i ++ rest) = .ok (i, rest) ∧
    ∀ (t : OpTable) (opcode : Byte), AssignedTo t i opcode →
      decode t (opcode :: (encode i).tail ++ rest) = .ok (i, rest)

/-- Encoding a decoded instruction gives back the bytes it was read from: under the default table, and, with the opcode byte that was
read, which the table assigns to it, under any table. -/
def Obligations.EncodeDecodeRoundTrip : Prop :=
  ∀ (bytes rest : List Byte) (i : Instr),
    (decode defaultOptab bytes = .ok (i, rest) → encode i ++ rest = bytes) ∧
    ∀ t : OpTable, decode t bytes = .ok (i, rest) →
      ∃ opcode, AssignedTo t i opcode ∧ opcode :: (encode i).tail ++ rest = bytes

/-- Exactly the 56 bytes listed in 30_encoding.md R69 have no entry in the default table. -/
def Obligations.IllegalOpcodesAreTheListed : Prop :=
  illegalBytes.length = 56 ∧ ∀ b : Byte, defaultOptab.lookup b = none ↔ b ∈ illegalBytes

/-- The step that meets an opcode byte without an entry in the machine's table sets the latch to (`UnknownOpcode`, `pc0`, byte) and
changes nothing else; with the default table the 56 listed bytes are such bytes. That this step answers a next state, and the
report comes with the next request, is the model's choice (log 5). -/
def Obligations.UnknownOpcodeLatches : Prop :=
  ∀ s : State, s.fault = none →
    (s.cfg.optab.lookup (s.memRead s.pc) = none ∨ (s.cfg.optab = defaultOptab ∧ s.memRead s.pc ∈ illegalBytes)) →
    step s = .next { s with fault := some { cause := .unknownOpcode, pc0 := s.pc, opcode := s.memRead s.pc } }

/-- While the latch is set no step is taken and the same fault is reported again (60_exceptions.md R232, decision D25). -/
def Obligations.HaltedStateReportsSameFault : Prop :=
  ∀ (s : State) (r : FaultRecord), s.fault = some r → step s = .fault (.halted r)

/-- From every state the step is either a next state or the report of the latched fault; it is never refused. That a state without a
latched fault answers a next state also where it meets an unassigned opcode byte is the model's choice (log 5). -/
def Obligations.StepIsTotal : Prop :=
  ∀ s : State, (s.fault = none ∧ ∃ t, step s = .next t) ∨ (∃ r, s.fault = some r ∧ step s = .fault (.halted r))

/-- Every instruction completes in every state, without touching the latch or the parameters. -/
def Obligations.EveryInstructionCompletes : Prop :=
  ∀ (i : Instr) (s : State), ∃ t, exec i s = .next t ∧ t.fault = s.fault ∧ t.cfg = s.cfg

/-- The word placed where the step fetches runs as the machine's table reads it, and, with the default table, as the opcode-table word
decodes. That the word is placed at `pc` is the host's interface (log 16). -/
def Obligations.PlacedWordRuns : Prop :=
  ∀ (s : State) (nbits w : Nat) (i : Instr), StateInv s →
    ((∃ rest, decode s.cfg.optab (tableWordBytes nbits w) = .ok (i, rest)) ∨
      (s.cfg.optab = defaultOptab ∧ decodeTableWord nbits w = some i)) →
    step (s.withFetchWord nbits w) = exec i (s.withFetchWord nbits w)

/-! ## Reset and the invariant -/

/-- After reset, for every choice of the parameters: registers and flags 0, `CCR = 0xE0`, `sp` at `STACK_TOP`, the ring `RING_INIT`,
every address reads `FILL`, no fault (10_state.md R32, 70_reset_and_hazards.md R250, decision D28). The host's reset leads there
from every state, whatever is latched (60_exceptions.md R232). `State.reset` is the example instantiation (log 2, log 3). -/
def Obligations.ResetLeavesSpecValues : Prop :=
  (∀ c : Config,
    (State.resetWith c).a = 0 ∧ (State.resetWith c).x = 0 ∧ (State.resetWith c).pc = 0 ∧
    (State.resetWith c).packCcr = 0xE0 ∧ (State.resetWith c).sp = c.stackTop ∧ (State.resetWith c).ring = c.ringInit ∧
    (∀ addr, (State.resetWith c).memRead addr = c.fill) ∧ (State.resetWith c).fault = none ∧
    (State.resetWith c).cfg = c) ∧
  (∀ s : State, hostReset s = State.resetWith s.cfg ∧ (hostReset s).fault = none) ∧
  (∃ c : Config, State.reset = State.resetWith c)

/-- Reset with well-formed parameters meets the invariant, and so does `State.reset`. -/
def Obligations.ResetMeetsInvariant : Prop :=
  (∀ c : Config, c.wf = true → StateInv (State.resetWith c)) ∧ StateInv State.reset

/-- Every step keeps the invariant: memory stays canonical, `sp` stays in the stack window, the ring keeps its size, only
`UnknownOpcode` is latched, the parameters stay well formed. -/
def Obligations.StepKeepsInvariant : Prop :=
  ∀ s t : State, StateInv s → step s = .next t → StateInv t

/-- No step changes the parameters (10_state.md R33), and none clears a latched fault. -/
def Obligations.StepKeepsParameters : Prop :=
  ∀ s t : State, step s = .next t → t.cfg = s.cfg ∧ s.fault = none

/-! ## Memory, the ring, the resolver -/

/-- After `MemWrite(addr, 1, v)` a read of `addr` gives `v` and no other address changes. -/
def Obligations.MemWriteThenRead : Prop :=
  ∀ (s : State) (addr : Addr) (v : Byte), StateInv s →
    (s.memWrite addr v).memRead addr = v ∧ memSameExcept addr s (s.memWrite addr v) ∧
    s.memWrite addr v = { s with mem := (s.memWrite addr v).mem }

/-- `Push(v)`: the cell one below `sp` (or `top`, from `bottom`) gets `v`, `sp` is that cell, every other cell, and everything else,
keeps its value. -/
def Obligations.PushWritesBelowSp : Prop :=
  ∀ (s : State) (v : Byte), StateInv s →
    (push v s).sp.toNat = (if (s.sp.toNat : Int) - 1 < (stackBottom s.cfg : Int) then s.cfg.stackTop.toNat else s.sp.toNat - 1) ∧
    (push v s).ringRead (push v s).sp = v ∧
    (∀ cell : Addr, stackBottom s.cfg ≤ cell.toNat → cell ≠ (push v s).sp → (push v s).ringRead cell = s.ringRead cell) ∧
    push v s = { s with sp := (push v s).sp, ring := (push v s).ring }

/-- `Pop()`: answers the cell at `sp`, steps `sp` up, from `top` to `bottom`, and changes nothing else. -/
def Obligations.PopReadsAtSp : Prop :=
  ∀ s : State, StateInv s →
    (pop s).1 = s.ringRead s.sp ∧
    (pop s).2.sp.toNat = (if s.cfg.stackTop.toNat < s.sp.toNat + 1 then stackBottom s.cfg else s.sp.toNat + 1) ∧
    (pop s).2 = { s with sp := (pop s).2.sp }

/-- Any sequence of at most `STACK_SIZE` pushes is popped last in, first out, and `sp` returns (10_state.md R29). -/
def Obligations.PushesPopInReverse : Prop :=
  ∀ (s : State) (vs : List Byte), StateInv s → vs.length ≤ s.cfg.stackSize →
    (popAll vs.length (pushAll vs s)).1 = vs.reverse ∧ (popAll vs.length (pushAll vs s)).2.sp = s.sp

/-- `STACK_SIZE` pushes return `sp` to where it was, and one push more lands on the cell the first one wrote (10_state.md R29). -/
def Obligations.FullRingWrapsAround : Prop :=
  ∀ (s : State) (v w : Byte) (vs : List Byte), StateInv s → (v :: vs).length = s.cfg.stackSize →
    (pushAll (v :: vs) s).sp = s.sp ∧ (push w (pushAll (v :: vs) s)).sp = (push v s).sp ∧
    (push w (pushAll (v :: vs) s)).ringRead (push v s).sp = w

/-- The two storages are not aliased: a push changes no memory read, a memory write changes no pop (10_state.md R25). -/
def Obligations.RingAndMemoryAreDisjoint : Prop :=
  ∀ (s : State) (addr : Addr) (v : Byte),
    memSame s (push v s) ∧ (s.memWrite addr v).ring = s.ring ∧ (s.memWrite addr v).sp = s.sp ∧
    (pop (s.memWrite addr v)).1 = (pop s).1

/-- Effective addresses (40_dispatch_addressing.md R88 to R92): DIR and IX reach page 0, EXT is the operand, the 8-bit offset is
unsigned and cannot wrap (decision D13), the 16-bit offset wraps (decision D14). -/
def Obligations.EffectiveAddresses : Prop :=
  ∀ (x dd ff : Byte) (hhll eeff : BitVec 16),
    (effAddr x (.dir dd)).toNat = dd.toNat ∧
    (effAddr x (.ext hhll)).toNat = hhll.toNat ∧
    (effAddr x .ix).toNat = x.toNat ∧
    (effAddr x (.ix1 ff)).toNat = x.toNat + ff.toNat ∧
    (effAddr x (.ix2 eeff)).toNat = (x.toNat + eeff.toNat) % 65536

/-! ## Arithmetic and logic -/

/-- `add` in its six forms (41_arithmetic.md R100). -/
def Obligations.AddResult : Prop :=
  ∀ (o : ValueOperand) (s : State), encode (.ofValue .add o) = valueBytes 0xB o ∧
    ∃ t, exec (.ofValue .add o) s = .next t ∧
      t = { s with a := t.a, flagH := t.flagH, flagN := t.flagN, flagZ := t.flagZ, flagC := t.flagC, pc := t.pc } ∧
      memSame s t ∧ t.pc = s.pc + BitVec.ofNat 16 (Instr.ofValue .add o).len ∧
      t.a.toNat = (s.a.toNat + (readValue o s).toNat) % 256 ∧
      (t.flagC = true ↔ 255 < s.a.toNat + (readValue o s).toNat) ∧
      (t.flagH = true ↔ 0x0F < s.a.toNat % 16 + (readValue o s).toNat % 16) ∧ hasNZ t t.a

/-- `adc` in its six forms: the old `C` takes part in the sum, the carry and the half-carry (41_arithmetic.md, decision D23). -/
def Obligations.AdcResult : Prop :=
  ∀ (o : ValueOperand) (s : State), encode (.ofValue .adc o) = valueBytes 0x9 o ∧
    ∃ t, exec (.ofValue .adc o) s = .next t ∧
      t = { s with a := t.a, flagH := t.flagH, flagN := t.flagN, flagZ := t.flagZ, flagC := t.flagC, pc := t.pc } ∧
      memSame s t ∧ t.pc = s.pc + BitVec.ofNat 16 (Instr.ofValue .adc o).len ∧
      t.a.toNat = (s.a.toNat + (readValue o s).toNat + s.flagC.toNat) % 256 ∧
      (t.flagC = true ↔ 255 < s.a.toNat + (readValue o s).toNat + s.flagC.toNat) ∧
      (t.flagH = true ↔ 0x0F < s.a.toNat % 16 + (readValue o s).toNat % 16 + s.flagC.toNat) ∧ hasNZ t t.a

/-- `sub` in its six forms: `C` is the borrow, `H` is unchanged (41_arithmetic.md R102). -/
def Obligations.SubResult : Prop :=
  ∀ (o : ValueOperand) (s : State), encode (.ofValue .sub o) = valueBytes 0x0 o ∧
    ∃ t, exec (.ofValue .sub o) s = .next t ∧
      t = { s with a := t.a, flagN := t.flagN, flagZ := t.flagZ, flagC := t.flagC, pc := t.pc } ∧
      memSame s t ∧ t.pc = s.pc + BitVec.ofNat 16 (Instr.ofValue .sub o).len ∧
      (t.a.toNat : Int) = ((s.a.toNat : Int) - ((readValue o s).toNat : Int)) % 256 ∧
      (t.flagC = true ↔ s.a.toNat < (readValue o s).toNat) ∧ hasNZ t t.a

/-- `sbc` in its six forms: the old `C` is part of the subtrahend (41_arithmetic.md, decision D23). -/
def Obligations.SbcResult : Prop :=
  ∀ (o : ValueOperand) (s : State), encode (.ofValue .sbc o) = valueBytes 0x2 o ∧
    ∃ t, exec (.ofValue .sbc o) s = .next t ∧
      t = { s with a := t.a, flagN := t.flagN, flagZ := t.flagZ, flagC := t.flagC, pc := t.pc } ∧
      memSame s t ∧ t.pc = s.pc + BitVec.ofNat 16 (Instr.ofValue .sbc o).len ∧
      (t.a.toNat : Int) = ((s.a.toNat : Int) - ((readValue o s).toNat : Int) - (s.flagC.toNat : Int)) % 256 ∧
      (t.flagC = true ↔ s.a.toNat < (readValue o s).toNat + s.flagC.toNat) ∧ hasNZ t t.a

/-- `mul`: the low byte of the product, `x` and every flag unchanged (41_arithmetic.md, decision D19). -/
def Obligations.MulResult : Prop :=
  ∀ s : State, encode .mul = [0x42] ∧
    ∃ t, exec .mul s = .next t ∧ t = { s with a := t.a, pc := s.pc + 1 } ∧ memSame s t ∧
      t.a.toNat = (s.a.toNat * s.x.toNat) % 256

/-- `and`, `ora`, `eor` in their six forms (42_logic.md R110 to R112). -/
def Obligations.LogicResult : Prop :=
  ∀ (o : ValueOperand) (s : State),
    (encode (.ofValue .and o) = valueBytes 0x4 o ∧
      ∃ t, exec (.ofValue .and o) s = .next t ∧
        t = { s with a := s.a &&& readValue o s, flagN := t.flagN, flagZ := t.flagZ, pc := t.pc } ∧
        memSame s t ∧ t.pc = s.pc + BitVec.ofNat 16 (Instr.ofValue .and o).len ∧ hasNZ t t.a) ∧
    (encode (.ofValue .ora o) = valueBytes 0xA o ∧
      ∃ t, exec (.ofValue .ora o) s = .next t ∧
        t = { s with a := s.a ||| readValue o s, flagN := t.flagN, flagZ := t.flagZ, pc := t.pc } ∧
        memSame s t ∧ t.pc = s.pc + BitVec.ofNat 16 (Instr.ofValue .ora o).len ∧ hasNZ t t.a) ∧
    (encode (.ofValue .eor o) = valueBytes 0x8 o ∧
      ∃ t, exec (.ofValue .eor o) s = .next t ∧
        t = { s with a := s.a ^^^ readValue o s, flagN := t.flagN, flagZ := t.flagZ, pc := t.pc } ∧
        memSame s t ∧ t.pc = s.pc + BitVec.ofNat 16 (Instr.ofValue .eor o).len ∧ hasNZ t t.a)

/-! ## Read-modify-write instructions on `a`, `x` and memory -/

/-- `coma`, `comx`, `com` in DIR, IX1, IX: one's complement, `C` is 1 always (43_complement_negate.md R121 to R123). -/
def Obligations.ComplementResult : Prop :=
  ∀ (o : RmwOperand) (s : State), StateInv s → encode (.ofRmw .com o) = rmwBytes 0x3 o ∧
    ∃ t r, exec (.ofRmw .com o) s = .next t ∧
      t = { s with a := t.a, x := t.x, mem := t.mem, flagN := t.flagN, flagZ := t.flagZ, flagC := true, pc := t.pc } ∧
      t.pc = s.pc + BitVec.ofNat 16 (Instr.ofRmw .com o).len ∧
      r.toNat = 255 - (readRmw o s).toNat ∧ wroteOperand o r s t ∧ hasNZ t r

/-- `nega`, `negx`, `neg` in DIR, IX1, IX: two's complement; `C` by the switch `NEG_CARRY_RULE`, whose `borrow` value is the spec's
decision D15 (log 6). -/
def Obligations.NegateResult : Prop :=
  ∀ (o : RmwOperand) (s : State), StateInv s → encode (.ofRmw .neg o) = rmwBytes 0x0 o ∧
    ∃ t r, exec (.ofRmw .neg o) s = .next t ∧
      t = { s with a := t.a, x := t.x, mem := t.mem, flagN := t.flagN, flagZ := t.flagZ, flagC := t.flagC, pc := t.pc } ∧
      t.pc = s.pc + BitVec.ofNat 16 (Instr.ofRmw .neg o).len ∧
      r.toNat = (256 - (readRmw o s).toNat) % 256 ∧ wroteOperand o r s t ∧ hasNZ t r ∧
      (s.cfg.negCarryRule = .borrow → (t.flagC = true ↔ (readRmw o s).toNat ≠ 0)) ∧
      (s.cfg.negCarryRule = .additive → (t.flagC = true ↔ (readRmw o s).toNat = 0))

/-- `lsl`, `lsr`, `asr`, each on `a`, `x` and memory in DIR, IX1, IX (44_shift_rotate.md R133 to R141). -/
def Obligations.ShiftResult : Prop :=
  ∀ (o : RmwOperand) (s : State), StateInv s →
    (encode (.ofRmw .lsl o) = rmwBytes 0x8 o ∧
      ∃ t r, exec (.ofRmw .lsl o) s = .next t ∧
        t = { s with a := t.a, x := t.x, mem := t.mem, flagN := t.flagN, flagZ := t.flagZ, flagC := t.flagC, pc := t.pc } ∧
        t.pc = s.pc + BitVec.ofNat 16 (Instr.ofRmw .lsl o).len ∧
        r.toNat = (2 * (readRmw o s).toNat) % 256 ∧ wroteOperand o r s t ∧ hasNZ t r ∧
        (t.flagC = true ↔ 128 ≤ (readRmw o s).toNat)) ∧
    (encode (.ofRmw .lsr o) = rmwBytes 0x4 o ∧
      ∃ t r, exec (.ofRmw .lsr o) s = .next t ∧
        t = { s with a := t.a, x := t.x, mem := t.mem, flagN := t.flagN, flagZ := t.flagZ, flagC := t.flagC, pc := t.pc } ∧
        t.pc = s.pc + BitVec.ofNat 16 (Instr.ofRmw .lsr o).len ∧
        r.toNat = (readRmw o s).toNat / 2 ∧ wroteOperand o r s t ∧ hasNZ t r ∧
        (t.flagC = true ↔ (readRmw o s).toNat % 2 = 1)) ∧
    (encode (.ofRmw .asr o) = rmwBytes 0x7 o ∧
      ∃ t r, exec (.ofRmw .asr o) s = .next t ∧
        t = { s with a := t.a, x := t.x, mem := t.mem, flagN := t.flagN, flagZ := t.flagZ, flagC := t.flagC, pc := t.pc } ∧
        t.pc = s.pc + BitVec.ofNat 16 (Instr.ofRmw .asr o).len ∧
        r.toNat = (readRmw o s).toNat / 2 + (if 128 ≤ (readRmw o s).toNat then 128 else 0) ∧
        wroteOperand o r s t ∧ hasNZ t r ∧ (t.flagC = true ↔ (readRmw o s).toNat % 2 = 1))

/-- `rol` and `ror`, each on `a`, `x` and memory in DIR, IX1, IX: circular, the old `C` not read (decision D16), or through the carry
where the switch `ROTATE_THROUGH_CARRY` is set (44_shift_rotate.md R131; log 6). -/
def Obligations.RotateResult : Prop :=
  ∀ (o : RmwOperand) (s : State), StateInv s →
    (encode (.ofRmw .rol o) = rmwBytes 0x9 o ∧
      ∃ t r, exec (.ofRmw .rol o) s = .next t ∧
        t = { s with a := t.a, x := t.x, mem := t.mem, flagN := t.flagN, flagZ := t.flagZ, flagC := t.flagC, pc := t.pc } ∧
        t.pc = s.pc + BitVec.ofNat 16 (Instr.ofRmw .rol o).len ∧
        (s.cfg.rotateThroughCarry = false → r.toNat = (2 * (readRmw o s).toNat) % 256 + (readRmw o s).toNat / 128) ∧
        (s.cfg.rotateThroughCarry = true → r.toNat = (2 * (readRmw o s).toNat) % 256 + s.flagC.toNat) ∧
        wroteOperand o r s t ∧ hasNZ t r ∧ (t.flagC = true ↔ 128 ≤ (readRmw o s).toNat)) ∧
    (encode (.ofRmw .ror o) = rmwBytes 0x6 o ∧
      ∃ t r, exec (.ofRmw .ror o) s = .next t ∧
        t = { s with a := t.a, x := t.x, mem := t.mem, flagN := t.flagN, flagZ := t.flagZ, flagC := t.flagC, pc := t.pc } ∧
        t.pc = s.pc + BitVec.ofNat 16 (Instr.ofRmw .ror o).len ∧
        (s.cfg.rotateThroughCarry = false → r.toNat = (readRmw o s).toNat / 2 + 128 * ((readRmw o s).toNat % 2)) ∧
        (s.cfg.rotateThroughCarry = true → r.toNat = (readRmw o s).toNat / 2 + 128 * s.flagC.toNat) ∧
        wroteOperand o r s t ∧ hasNZ t r ∧ (t.flagC = true ↔ (readRmw o s).toNat % 2 = 1))

/-- `inc` and `dec`, each on `a`, `x` and memory in DIR, IX1, IX: modulo 256, `N` and `Z` only (46_incdec_compare_test.md, decision
D20). -/
def Obligations.IncDecResult : Prop :=
  ∀ (o : RmwOperand) (s : State), StateInv s →
    (encode (.ofRmw .inc o) = rmwBytes 0xC o ∧
      ∃ t r, exec (.ofRmw .inc o) s = .next t ∧
        t = { s with a := t.a, x := t.x, mem := t.mem, flagN := t.flagN, flagZ := t.flagZ, pc := t.pc } ∧
        t.pc = s.pc + BitVec.ofNat 16 (Instr.ofRmw .inc o).len ∧
        r.toNat = ((readRmw o s).toNat + 1) % 256 ∧ wroteOperand o r s t ∧ hasNZ t r) ∧
    (encode (.ofRmw .dec o) = rmwBytes 0xA o ∧
      ∃ t r, exec (.ofRmw .dec o) s = .next t ∧
        t = { s with a := t.a, x := t.x, mem := t.mem, flagN := t.flagN, flagZ := t.flagZ, pc := t.pc } ∧
        t.pc = s.pc + BitVec.ofNat 16 (Instr.ofRmw .dec o).len ∧
        r.toNat = ((readRmw o s).toNat + 255) % 256 ∧ wroteOperand o r s t ∧ hasNZ t r)

/-! ## Data movement, compare, test -/

/-- `lda` and `ldx` in their six forms; the operand is resolved from the old `x` (45_data_movement.md R150, R152). -/
def Obligations.LoadResult : Prop :=
  ∀ (o : ValueOperand) (s : State),
    (encode (.ofValue .lda o) = valueBytes 0x6 o ∧
      ∃ t, exec (.ofValue .lda o) s = .next t ∧
        t = { s with a := readValue o s, flagN := t.flagN, flagZ := t.flagZ, pc := t.pc } ∧
        memSame s t ∧ t.pc = s.pc + BitVec.ofNat 16 (Instr.ofValue .lda o).len ∧ hasNZ t t.a) ∧
    (encode (.ofValue .ldx o) = valueBytes 0xE o ∧
      ∃ t, exec (.ofValue .ldx o) s = .next t ∧
        t = { s with x := readValue o s, flagN := t.flagN, flagZ := t.flagZ, pc := t.pc } ∧
        memSame s t ∧ t.pc = s.pc + BitVec.ofNat 16 (Instr.ofValue .ldx o).len ∧ hasNZ t t.x)

/-- `sta` in its five forms and `stx` in its four: the register's byte is stored at the effective address, and `N`, `Z` come from it
(45_data_movement.md, decision D18). -/
def Obligations.StoreResult : Prop :=
  ∀ (o : AddrOperand) (s : State), StateInv s →
    (encode (.ofSta o) = addrBytes 0x7 o ∧
      ∃ t, exec (.ofSta o) s = .next t ∧
        t = { s with mem := t.mem, flagN := t.flagN, flagZ := t.flagZ, pc := t.pc } ∧
        t.pc = s.pc + BitVec.ofNat 16 (Instr.ofSta o).len ∧
        t.memRead (effAddr s.x o) = s.a ∧ memSameExcept (effAddr s.x o) s t ∧ hasNZ t s.a) ∧
    (∀ i, Instr.ofStx o = some i → encode i = addrBytes 0xF o ∧
      ∃ t, exec i s = .next t ∧
        t = { s with mem := t.mem, flagN := t.flagN, flagZ := t.flagZ, pc := t.pc } ∧
        t.pc = s.pc + BitVec.ofNat 16 i.len ∧
        t.memRead (effAddr s.x o) = s.x ∧ memSameExcept (effAddr s.x o) s t ∧ hasNZ t s.x)

/-- `tax` and `txa` copy the register and set `N`, `Z` (45_data_movement.md, decision D18). -/
def Obligations.TransferResult : Prop :=
  ∀ s : State, encode .tax = [0x97] ∧ encode .txa = [0x9F] ∧
    (∃ t, exec .tax s = .next t ∧ t = { s with x := s.a, flagN := t.flagN, flagZ := t.flagZ, pc := s.pc + 1 } ∧
      memSame s t ∧ hasNZ t s.a) ∧
    (∃ t, exec .txa s = .next t ∧ t = { s with a := s.x, flagN := t.flagN, flagZ := t.flagZ, pc := s.pc + 1 } ∧
      memSame s t ∧ hasNZ t s.x)

/-- `clra`, `clrx`, `clr` in DIR, IX1, IX: 0 is written, `N` is 0 and `Z` is 1 (45_data_movement.md R156 to R158). -/
def Obligations.ClearResult : Prop :=
  ∀ (o : RmwOperand) (s : State), StateInv s → encode (.ofClr o) = rmwBytes 0xF o ∧
    ∃ t, exec (.ofClr o) s = .next t ∧
      t = { s with a := t.a, x := t.x, mem := t.mem, flagN := false, flagZ := true, pc := t.pc } ∧
      t.pc = s.pc + BitVec.ofNat 16 (Instr.ofClr o).len ∧ wroteOperand o 0 s t

/-- `cmp` and `cpx` in their six forms: `N`, `Z` of the difference, no register written; `C` keeps its value (decision D17), or is the
borrow where the switch `CMP_UPDATES_C` is set (46_incdec_compare_test.md R171; log 6). -/
def Obligations.CompareResult : Prop :=
  ∀ (o : ValueOperand) (s : State),
    (encode (.ofValue .cmp o) = valueBytes 0x1 o ∧
      ∃ t r, exec (.ofValue .cmp o) s = .next t ∧
        t = { s with flagN := t.flagN, flagZ := t.flagZ, flagC := t.flagC, pc := t.pc } ∧ memSame s t ∧
        t.pc = s.pc + BitVec.ofNat 16 (Instr.ofValue .cmp o).len ∧
        (r.toNat : Int) = ((s.a.toNat : Int) - ((readValue o s).toNat : Int)) % 256 ∧ hasNZ t r ∧
        (s.cfg.cmpUpdatesC = false → t.flagC = s.flagC) ∧
        (s.cfg.cmpUpdatesC = true → (t.flagC = true ↔ s.a.toNat < (readValue o s).toNat))) ∧
    (encode (.ofValue .cpx o) = valueBytes 0x3 o ∧
      ∃ t r, exec (.ofValue .cpx o) s = .next t ∧
        t = { s with flagN := t.flagN, flagZ := t.flagZ, flagC := t.flagC, pc := t.pc } ∧ memSame s t ∧
        t.pc = s.pc + BitVec.ofNat 16 (Instr.ofValue .cpx o).len ∧
        (r.toNat : Int) = ((s.x.toNat : Int) - ((readValue o s).toNat : Int)) % 256 ∧ hasNZ t r ∧
        (s.cfg.cmpUpdatesC = false → t.flagC = s.flagC) ∧
        (s.cfg.cmpUpdatesC = true → (t.flagC = true ↔ s.x.toNat < (readValue o s).toNat)))

/-- `tsta`, `tstx`, `tst` in DIR, IX1, IX: `N`, `Z` of the operand, nothing else written (46_incdec_compare_test.md R174 to R177). -/
def Obligations.TestResult : Prop :=
  ∀ (o : RmwOperand) (s : State), encode (.ofTst o) = rmwBytes 0xD o ∧
    ∃ t, exec (.ofTst o) s = .next t ∧
      t = { s with flagN := t.flagN, flagZ := t.flagZ, pc := t.pc } ∧ memSame s t ∧
      t.pc = s.pc + BitVec.ofNat 16 (Instr.ofTst o).len ∧ hasNZ t (readRmw o s)

/-! ## Bits and branches -/

/-- `bset n` and `bclr n` for every bit: that one bit of the byte at the direct address changes, no other byte, flag or register
(47_bit_ops.md, decisions D22, D33). -/
def Obligations.BitSetClearResult : Prop :=
  ∀ (n : Fin 8) (dd : Byte) (s : State), StateInv s →
    (encode (.ofBset n dd) = [BitVec.ofNat 8 (0x10 + 2 * n.val), dd] ∧
      ∃ t, exec (.ofBset n dd) s = .next t ∧ t = { s with mem := t.mem, pc := s.pc + 2 } ∧
        memSameExcept (zext16 dd) s t ∧
        ∀ k : Nat, k < 8 →
          (t.memRead (zext16 dd)).getLsbD k = (if k = n.val then true else (s.memRead (zext16 dd)).getLsbD k)) ∧
    (encode (.ofBclr n dd) = [BitVec.ofNat 8 (0x11 + 2 * n.val), dd] ∧
      ∃ t, exec (.ofBclr n dd) s = .next t ∧ t = { s with mem := t.mem, pc := s.pc + 2 } ∧
        memSameExcept (zext16 dd) s t ∧
        ∀ k : Nat, k < 8 →
          (t.memRead (zext16 dd)).getLsbD k = (if k = n.val then false else (s.memRead (zext16 dd)).getLsbD k))

/-- `brset n` and `brclr n` for every bit: `pc` goes to `npc + rel` if the bit is 1 (0), else to `npc`; nothing else changes
(47_bit_ops.md, decisions D12, D21, D33). -/
def Obligations.BitBranchResult : Prop :=
  ∀ (n : Fin 8) (dd rr : Byte) (s : State),
    (encode (.ofBrset n dd rr) = [BitVec.ofNat 8 (2 * n.val), dd, rr] ∧
      ∃ t, exec (.ofBrset n dd rr) s = .next t ∧ t = { s with pc := t.pc } ∧ memSame s t ∧
        ((s.memRead (zext16 dd)).getLsbD n.val = true → (t.pc.toNat : Int) = ((s.pc.toNat : Int) + 3 + rr.toInt) % 65536) ∧
        ((s.memRead (zext16 dd)).getLsbD n.val = false → t.pc = s.pc + 3)) ∧
    (encode (.ofBrclr n dd rr) = [BitVec.ofNat 8 (1 + 2 * n.val), dd, rr] ∧
      ∃ t, exec (.ofBrclr n dd rr) s = .next t ∧ t = { s with pc := t.pc } ∧ memSame s t ∧
        ((s.memRead (zext16 dd)).getLsbD n.val = false → (t.pc.toNat : Int) = ((s.pc.toNat : Int) + 3 + rr.toInt) % 65536) ∧
        ((s.memRead (zext16 dd)).getLsbD n.val = true → t.pc = s.pc + 3))

/-- The fourteen branches: `pc` goes to `npc + rel` modulo 65536 if the condition holds, else to `npc`; nothing else changes
(48_branches.md, decisions D12, D24). The opcode byte is the branch's row in column `0x2` of the default map. -/
def Obligations.BranchResult : Prop :=
  ∀ (op : BranchOp) (rr : Byte) (s : State), encode (.ofBranch op rr) = [mapByte 0x2 (branchNibble op), rr] ∧
    ∃ t, exec (.ofBranch op rr) s = .next t ∧
    t = { s with pc := t.pc } ∧ memSame s t ∧
    (branchTaken op s → (t.pc.toNat : Int) = ((s.pc.toNat : Int) + 2 + rr.toInt) % 65536) ∧
    (¬ branchTaken op s → (t.pc.toNat : Int) = ((s.pc.toNat : Int) + 2) % 65536)

/-- A `bra` with offset `FE`, in the default table `20 FE`, leaves every state unchanged (70_reset_and_hazards.md R259). -/
def Obligations.BranchToItselfStays : Prop :=
  ∀ s : State, s.fault = none → s.memRead (s.pc + 1) = 0xFE →
    (s.cfg.optab.lookup (s.memRead s.pc) = some (.branch .bra) ∨ (s.cfg.optab = defaultOptab ∧ s.memRead s.pc = 0x20)) →
    step s = .next s

/-! ## Subroutine, interrupt and control -/

/-- `jmp` in its five forms: `pc` is the effective address, nothing else changes (49_subroutine_interrupt_control.md R215). -/
def Obligations.JumpResult : Prop :=
  ∀ (o : AddrOperand) (s : State), encode (.ofJmp o) = addrBytes 0xC o ∧
    ∃ t, exec (.ofJmp o) s = .next t ∧ t = { s with pc := effAddr s.x o } ∧ memSame s t

/-- `bsr` and `jsr` in its five forms: the return address `npc` is pushed, low byte first (decision D8), then `pc` is the target
(decision D12 for `bsr`); memory is unchanged. -/
def Obligations.CallResult : Prop :=
  ∀ s : State,
    (∀ rr : Byte, encode (.bsr rr) = [0xAD, rr] ∧
      ∃ t, exec (.bsr rr) s = .next t ∧ memSame s t ∧
        (t.pc.toNat : Int) = ((s.pc.toNat : Int) + 2 + rr.toInt) % 65536 ∧
        t = { push (highByte (s.pc + 2)) (push (lowByte (s.pc + 2)) s) with pc := t.pc }) ∧
    (∀ o : AddrOperand, encode (.ofJsr o) = addrBytes 0xD o ∧
      ∃ t, exec (.ofJsr o) s = .next t ∧ memSame s t ∧ t.pc = effAddr s.x o ∧
        t = { push (highByte (s.pc + BitVec.ofNat 16 (Instr.ofJsr o).len))
                (push (lowByte (s.pc + BitVec.ofNat 16 (Instr.ofJsr o).len)) s) with pc := t.pc })

/-- `rts`: `pc` is the two popped bytes, high byte first (decision D8), `sp` is up by two pops, nothing else changes. -/
def Obligations.RtsResult : Prop :=
  ∀ s : State, encode .rts = [0x81] ∧
    ∃ t, exec .rts s = .next t ∧ memSame s t ∧
      t.pc.toNat = (s.ringRead s.sp).toNat * 256 + (s.ringRead (pop s).2.sp).toNat ∧
      t = { s with sp := (pop (pop s).2).2.sp, pc := t.pc }

/-- `swi`: the return address (low byte first), `x`, `a` and the packed old flags are pushed, `I` becomes 1, and `pc` is read
big-endian at the vector (49_subroutine_interrupt_control.md, decisions D6 to D11; log 10). -/
def Obligations.SwiResult : Prop :=
  ∀ s : State, encode .swi = [0x83] ∧
    ∃ t, exec .swi s = .next t ∧ memSame s t ∧
      t.pc.toNat = (s.memRead s.cfg.swiVector).toNat * 256 + (s.memRead (s.cfg.swiVector + 1)).toNat ∧
      (s.packCcr.toNat = 0xE0 + 16 * s.flagH.toNat + 8 * s.flagI.toNat + 4 * s.flagN.toNat + 2 * s.flagZ.toNat + s.flagC.toNat) ∧
      t = { pushAll [lowByte (s.pc + 1), highByte (s.pc + 1), s.x, s.a, s.packCcr] s with flagI := true, pc := t.pc }

/-- `rti`: the flags from bits 4 to 0 of the first popped byte (bits 7 to 5 discarded, decision D7), then `a`, `x`, and the return
address high byte first; `sp` is up by five pops, nothing else changes (49_subroutine_interrupt_control.md). -/
def Obligations.RtiResult : Prop :=
  ∀ s : State, encode .rti = [0x80] ∧
    ∃ t b av xv h l, popAll 5 s = ([b, av, xv, h, l], (popAll 5 s).2) ∧ exec .rti s = .next t ∧ memSame s t ∧
      t = { s with
        flagH := b.getLsbD 4, flagI := b.getLsbD 3, flagN := b.getLsbD 2, flagZ := b.getLsbD 1, flagC := b.getLsbD 0,
        a := av, x := xv, sp := (popAll 5 s).2.sp, pc := t.pc } ∧
      t.pc.toNat = h.toNat * 256 + l.toNat

/-- `clc`, `sec`, `cli`, `sei`: one flag, and `pc` past the instruction (49_subroutine_interrupt_control.md R216 to R219). -/
def Obligations.FlagControlResult : Prop :=
  encode .clc = [0x98] ∧ encode .sec = [0x99] ∧ encode .cli = [0x9A] ∧ encode .sei = [0x9B] ∧
  ∀ s : State,
    exec .clc s = .next { s with flagC := false, pc := s.pc + 1 } ∧
    exec .sec s = .next { s with flagC := true, pc := s.pc + 1 } ∧
    exec .cli s = .next { s with flagI := false, pc := s.pc + 1 } ∧
    exec .sei s = .next { s with flagI := true, pc := s.pc + 1 }

/-- `rsp`: `sp` is `STACK_TOP`, the ring keeps its contents (49_subroutine_interrupt_control.md R220). -/
def Obligations.RspResult : Prop :=
  encode .rsp = [0x9C] ∧ ∀ s : State, exec .rsp s = .next { s with sp := s.cfg.stackTop, pc := s.pc + 1 }

/-- `wait` and `stop` only consume their length (49_subroutine_interrupt_control.md, decision D26). -/
def Obligations.WaitStopResult : Prop :=
  encode .wait = [0x8F] ∧ encode .stop = [0x8E] ∧
  ∀ s : State, exec .wait s = .next { s with pc := s.pc + 1 } ∧ exec .stop s = .next { s with pc := s.pc + 1 }

/-- A call and the `rts` that finds the stack as the call left it: `pc` is the address after the call, `sp` as before the call. -/
def Obligations.CallReturnRoundTrip : Prop :=
  ∀ (i : Instr) (s t u : State), StateInv s → 2 ≤ s.cfg.stackSize → ((∃ rr, i = .bsr rr) ∨ ∃ o, i = .ofJsr o) →
    exec i s = .next t → sameStack t u →
    exec .rts u = .next { u with pc := s.pc + BitVec.ofNat 16 i.len, sp := s.sp }

/-- A `swi` and the `rti` that finds the stack as the `swi` left it: `a`, `x`, the flags and `sp` as before the `swi`, and `pc` the
address after it (60_exceptions.md R238, 90_conflicts.md C8). -/
def Obligations.SwiRtiRoundTrip : Prop :=
  ∀ s t u : State, StateInv s → 5 ≤ s.cfg.stackSize → exec .swi s = .next t → sameStack t u →
    exec .rti u = .next { u with
      a := s.a, x := s.x, flagH := s.flagH, flagI := s.flagI, flagN := s.flagN, flagZ := s.flagZ, flagC := s.flagC,
      sp := s.sp, pc := s.pc + 1 }

/-! ## Whole-machine rules -/

/-- An instruction that does not redirect advances `pc` by its length (10_state.md R15). -/
def Obligations.PcAdvancesByLength : Prop :=
  ∀ (i : Instr) (s t : State), exec i s = .next t → MayRedirect i ∨ t.pc = s.pc + BitVec.ofNat 16 i.len

/-- Only the storing instructions change memory (20_memory.md R57). -/
def Obligations.OnlyStoresChangeMemory : Prop :=
  ∀ (i : Instr) (s t : State), exec i s = .next t → StoresMemory i ∨ (t.mem = s.mem ∧ memSame s t)

/-- Only `bsr jsr rts swi rti` reach the ring, and only they and `rsp` change `sp` (10_state.md R25, R28). -/
def Obligations.OnlyCallsReachRing : Prop :=
  ∀ (i : Instr) (s t : State), exec i s = .next t → ReachesRing i ∨ (t.ring = s.ring ∧ (t.sp = s.sp ∨ i = .rsp))

/-- `H` is written by `add`, `adc` and `rti` only; `I` by `swi`, `rti`, `cli` and `sei` only (10_state.md R22, R23). -/
def Obligations.HalfCarryAndMaskWriters : Prop :=
  ∀ (i : Instr) (s t : State), exec i s = .next t →
    (t.flagH = s.flagH ∨ (∃ o, i = .ofValue .add o ∨ i = .ofValue .adc o) ∨ i = .rti) ∧
    (t.flagI = s.flagI ∨ i = .swi ∨ i = .rti ∨ i = .cli ∨ i = .sei)

/-- `C`, `N` and `Z` are written only by the instructions the table of 10_state.md R23 lists for them; `cmp` and `cpx` write `C` only
where the switch `CMP_UPDATES_C` is set (log 6). -/
def Obligations.CarryAndResultFlagWriters : Prop :=
  ∀ (i : Instr) (s t : State), exec i s = .next t →
    (t.flagC = s.flagC ∨ WritesC i ∨
      (s.cfg.cmpUpdatesC = true ∧ ∃ o, i = .ofValue .cmp o ∨ i = .ofValue .cpx o)) ∧
    ((t.flagN = s.flagN ∧ t.flagZ = s.flagZ) ∨ WritesNZ i)

/-- `a` and `x` are changed only by the instructions that name them as destination (10_state.md R11, R12). -/
def Obligations.RegisterWriters : Prop :=
  ∀ (i : Instr) (s t : State), exec i s = .next t → (t.a = s.a ∨ WritesA i) ∧ (t.x = s.x ∨ WritesX i)

/-! ## The host port -/

/-- A program that fits is written byte by byte and nothing else changes; one that does not fit is refused
(70_reset_and_hazards.md R256, decision D30). A start that is no address is outside the rule's domain; refusing it is the model's
choice (log 17). -/
def Obligations.LoadProgramWritesBytes : Prop :=
  ∀ (s : State) (start : Nat) (bytes : List Byte), StateInv s →
    (start < 65536 → start + bytes.length ≤ 65536 →
      ∃ t, loadProgram start bytes s = .next t ∧ t = { s with mem := t.mem } ∧
        (∀ (k : Nat) (h : k < bytes.length), t.memRead (BitVec.ofNat 16 (start + k)) = bytes[k]) ∧
        (∀ addr : Addr, (addr.toNat < start ∨ start + bytes.length ≤ addr.toNat) → t.memRead addr = s.memRead addr)) ∧
    (65536 < start + bytes.length → loadProgram start bytes s = .refused (.loadPastEnd start bytes.length)) ∧
    (65536 ≤ start → loadProgram start bytes s = .refused (.loadPastEnd start bytes.length))

/-- A preset in range writes that register or flag and nothing else; out of range it is refused (70_reset_and_hazards.md R257,
decision D30). -/
def Obligations.PresetsAreRangeChecked : Prop :=
  ∀ (s : State) (v : Nat),
    presetA v s = (if v ≤ 255 then .next { s with a := BitVec.ofNat 8 v } else .refused (.registerWidthViolation v)) ∧
    presetX v s = (if v ≤ 255 then .next { s with x := BitVec.ofNat 8 v } else .refused (.registerWidthViolation v)) ∧
    presetPc v s = (if v ≤ 65535 then .next { s with pc := BitVec.ofNat 16 v } else .refused (.registerWidthViolation v)) ∧
    presetFlag .carry v s = (if v ≤ 1 then .next { s with flagC := v == 1 } else .refused (.registerWidthViolation v)) ∧
    presetFlag .zero v s = (if v ≤ 1 then .next { s with flagZ := v == 1 } else .refused (.registerWidthViolation v)) ∧
    presetFlag .negative v s = (if v ≤ 1 then .next { s with flagN := v == 1 } else .refused (.registerWidthViolation v)) ∧
    presetFlag .halfCarry v s = (if v ≤ 1 then .next { s with flagH := v == 1 } else .refused (.registerWidthViolation v)) ∧
    presetFlag .interruptMask v s = (if v ≤ 1 then .next { s with flagI := v == 1 } else .refused (.registerWidthViolation v))
end

