-- ==== Sys2Proof/Laws/Decode.lean ====
section
/-! SUPPORT. The laws of the decoder under any decode table: what an entry costs, what filling one gives, and what the checks on a
table say. -/

namespace Sys2Proof

/-- The checks of 30_encoding.md R64 on a table, as equations. -/
theorem Config.optabOk_iff {c : Config} : c.optabOk = true ↔
    (c.optab.length = 16 ∧ ∀ column ∈ c.optab, column.length = 16) ∧
      c.optab.lookup 0xA0 = some (.value .sub .imm) ∧ c.optab.lookup 0xFF = none := by
  simp [Config.optabOk, Config.optabSize, Config.optabSub, Config.optabAbsent, and_assoc]

/-- The example instantiation, with the default table, is well formed. -/
theorem Config.exampleInst_wf : Config.exampleInst.wf = true := by decide

/-- "The operand byte count of each entry equals the cost of its format" (30_encoding.md R64 (d)), under any table. -/
@[simp] theorem Descriptor.entry_operandBytes (opcode : Byte) (d : Descriptor) :
    (d.entry opcode).operandBytes = d.format.operandBytes := by
  have addr (mk : AddrOperand → Instr) (m : AddrMode) : (m.entry mk).operandBytes = m.format.operandBytes := by
    cases m <;> rfl
  have rmw (mk : RmwOperand → Instr) (m : RmwMode) : (m.entry mk).operandBytes = m.format.operandBytes := by
    cases m <;> rfl
  cases d with
  | value op m =>
    cases m with
    | imm => rfl
    | mem m => exact addr (fun o => .ofValue op (.mem o)) m
  | rmw op m => exact rmw _ m
  | tst m => exact rmw _ m
  | clr m => exact rmw _ m
  | sta m => exact addr _ m
  | stx m => cases m <;> rfl
  | jmp m => exact addr _ m
  | jsr m => exact addr _ m
  | _ => rfl

/-- The bit number read back from the opcode bytes of columns `0x0` and `0x1` (30_encoding.md R65, 40_dispatch_addressing.md R94):
`brset n`, `brclr n`, `bset n`, `bclr n`. -/
theorem bitNumber_default : ∀ n : Fin 8,
    bitNumber (BitVec.ofNat 8 (2 * n.val)) = n ∧ bitNumber (BitVec.ofNat 8 (1 + 2 * n.val)) = n ∧
    bitNumber (BitVec.ofNat 8 (0x10 + 2 * n.val)) = n ∧ bitNumber (BitVec.ofNat 8 (0x11 + 2 * n.val)) = n := by decide

@[simp] theorem decode_nil (t : OpTable) : decode t [] = .error .noBytes := rfl

/-- The decoder looks up the first byte and nothing else (40_dispatch_addressing.md R81). -/
theorem decode_cons (t : OpTable) (opcode : Byte) (rest : List Byte) :
    decode t (opcode :: rest) = match t.lookup opcode with
      | none => .error (.unknownOpcode opcode)
      | some d => (d.entry opcode).build opcode rest := rfl

/-- All that filling an entry can give. -/
theorem Entry.build_ok {opcode : Byte} {e : Entry} {bytes rest : List Byte} {i : Instr}
    (h : e.build opcode bytes = .ok (i, rest)) :
    (e = .none i ∧ bytes = rest) ∨
    (∃ mk b, e = .one mk ∧ i = mk b ∧ bytes = b :: rest) ∨
    (∃ mk b c, e = .two mk ∧ i = mk b c ∧ bytes = b :: c :: rest) ∨
    (∃ mk b c, e = .word mk ∧ i = mk (joinBytes b c) ∧ bytes = b :: c :: rest) := by
  unfold Entry.build at h
  split at h <;> simp only [Except.ok.injEq, Prod.mk.injEq, reduceCtorEq] at h
  all_goals obtain ⟨rfl, rfl⟩ := h
  · exact .inl ⟨rfl, rfl⟩
  · exact .inr (.inl ⟨_, _, rfl, rfl, rfl⟩)
  · exact .inr (.inr (.inl ⟨_, _, _, rfl, rfl, rfl⟩))
  · exact .inr (.inr (.inr ⟨_, _, _, rfl, rfl, rfl⟩))

end Sys2Proof
end

