-- ==== Sys2Proof/Laws/State.lean ====
section
/-! SUPPORT. One lemma per field per named state update, each true by unfolding the update once; `simp` uses them, so that no later
proof unfolds a record update. -/

namespace Sys2Proof.Machine

@[simp] theorem withNZ_a (s : State) (r : Byte) : (s.withNZ r).a = s.a := rfl
@[simp] theorem withNZ_x (s : State) (r : Byte) : (s.withNZ r).x = s.x := rfl
@[simp] theorem withNZ_pc (s : State) (r : Byte) : (s.withNZ r).pc = s.pc := rfl
@[simp] theorem withNZ_flagH (s : State) (r : Byte) : (s.withNZ r).flagH = s.flagH := rfl
@[simp] theorem withNZ_flagI (s : State) (r : Byte) : (s.withNZ r).flagI = s.flagI := rfl
@[simp] theorem withNZ_flagN (s : State) (r : Byte) : (s.withNZ r).flagN = r.getLsbD 7 := rfl
@[simp] theorem withNZ_flagZ (s : State) (r : Byte) : (s.withNZ r).flagZ = (r == 0) := rfl
@[simp] theorem withNZ_flagC (s : State) (r : Byte) : (s.withNZ r).flagC = s.flagC := rfl
@[simp] theorem withNZ_sp (s : State) (r : Byte) : (s.withNZ r).sp = s.sp := rfl
@[simp] theorem withNZ_ring (s : State) (r : Byte) : (s.withNZ r).ring = s.ring := rfl
@[simp] theorem withNZ_mem (s : State) (r : Byte) : (s.withNZ r).mem = s.mem := rfl
@[simp] theorem withNZ_fault (s : State) (r : Byte) : (s.withNZ r).fault = s.fault := rfl
@[simp] theorem withNZ_cfg (s : State) (r : Byte) : (s.withNZ r).cfg = s.cfg := rfl

@[simp] theorem unpackCcr_a (s : State) (b : Byte) : (s.unpackCcr b).a = s.a := rfl
@[simp] theorem unpackCcr_x (s : State) (b : Byte) : (s.unpackCcr b).x = s.x := rfl
@[simp] theorem unpackCcr_pc (s : State) (b : Byte) : (s.unpackCcr b).pc = s.pc := rfl
@[simp] theorem unpackCcr_flagH (s : State) (b : Byte) : (s.unpackCcr b).flagH = b.getLsbD 4 := rfl
@[simp] theorem unpackCcr_flagI (s : State) (b : Byte) : (s.unpackCcr b).flagI = b.getLsbD 3 := rfl
@[simp] theorem unpackCcr_flagN (s : State) (b : Byte) : (s.unpackCcr b).flagN = b.getLsbD 2 := rfl
@[simp] theorem unpackCcr_flagZ (s : State) (b : Byte) : (s.unpackCcr b).flagZ = b.getLsbD 1 := rfl
@[simp] theorem unpackCcr_flagC (s : State) (b : Byte) : (s.unpackCcr b).flagC = b.getLsbD 0 := rfl
@[simp] theorem unpackCcr_sp (s : State) (b : Byte) : (s.unpackCcr b).sp = s.sp := rfl
@[simp] theorem unpackCcr_ring (s : State) (b : Byte) : (s.unpackCcr b).ring = s.ring := rfl
@[simp] theorem unpackCcr_mem (s : State) (b : Byte) : (s.unpackCcr b).mem = s.mem := rfl
@[simp] theorem unpackCcr_fault (s : State) (b : Byte) : (s.unpackCcr b).fault = s.fault := rfl
@[simp] theorem unpackCcr_cfg (s : State) (b : Byte) : (s.unpackCcr b).cfg = s.cfg := rfl

@[simp] theorem memWrite_a (s : State) (p : Addr) (v : Byte) : (s.memWrite p v).a = s.a := rfl
@[simp] theorem memWrite_x (s : State) (p : Addr) (v : Byte) : (s.memWrite p v).x = s.x := rfl
@[simp] theorem memWrite_pc (s : State) (p : Addr) (v : Byte) : (s.memWrite p v).pc = s.pc := rfl
@[simp] theorem memWrite_flagH (s : State) (p : Addr) (v : Byte) : (s.memWrite p v).flagH = s.flagH := rfl
@[simp] theorem memWrite_flagI (s : State) (p : Addr) (v : Byte) : (s.memWrite p v).flagI = s.flagI := rfl
@[simp] theorem memWrite_flagN (s : State) (p : Addr) (v : Byte) : (s.memWrite p v).flagN = s.flagN := rfl
@[simp] theorem memWrite_flagZ (s : State) (p : Addr) (v : Byte) : (s.memWrite p v).flagZ = s.flagZ := rfl
@[simp] theorem memWrite_flagC (s : State) (p : Addr) (v : Byte) : (s.memWrite p v).flagC = s.flagC := rfl
@[simp] theorem memWrite_sp (s : State) (p : Addr) (v : Byte) : (s.memWrite p v).sp = s.sp := rfl
@[simp] theorem memWrite_ring (s : State) (p : Addr) (v : Byte) : (s.memWrite p v).ring = s.ring := rfl
@[simp] theorem memWrite_mem (s : State) (p : Addr) (v : Byte) : (s.memWrite p v).mem = Memory.write s.cfg.fill s.mem p.toNat v := rfl
@[simp] theorem memWrite_fault (s : State) (p : Addr) (v : Byte) : (s.memWrite p v).fault = s.fault := rfl
@[simp] theorem memWrite_cfg (s : State) (p : Addr) (v : Byte) : (s.memWrite p v).cfg = s.cfg := rfl

@[simp] theorem ringWrite_a (s : State) (p : Addr) (v : Byte) : (s.ringWrite p v).a = s.a := rfl
@[simp] theorem ringWrite_x (s : State) (p : Addr) (v : Byte) : (s.ringWrite p v).x = s.x := rfl
@[simp] theorem ringWrite_pc (s : State) (p : Addr) (v : Byte) : (s.ringWrite p v).pc = s.pc := rfl
@[simp] theorem ringWrite_flagH (s : State) (p : Addr) (v : Byte) : (s.ringWrite p v).flagH = s.flagH := rfl
@[simp] theorem ringWrite_flagI (s : State) (p : Addr) (v : Byte) : (s.ringWrite p v).flagI = s.flagI := rfl
@[simp] theorem ringWrite_flagN (s : State) (p : Addr) (v : Byte) : (s.ringWrite p v).flagN = s.flagN := rfl
@[simp] theorem ringWrite_flagZ (s : State) (p : Addr) (v : Byte) : (s.ringWrite p v).flagZ = s.flagZ := rfl
@[simp] theorem ringWrite_flagC (s : State) (p : Addr) (v : Byte) : (s.ringWrite p v).flagC = s.flagC := rfl
@[simp] theorem ringWrite_sp (s : State) (p : Addr) (v : Byte) : (s.ringWrite p v).sp = s.sp := rfl
@[simp] theorem ringWrite_ring (s : State) (p : Addr) (v : Byte) : (s.ringWrite p v).ring = s.ring.set (p.toNat - stackBottom s.cfg) v := rfl
@[simp] theorem ringWrite_mem (s : State) (p : Addr) (v : Byte) : (s.ringWrite p v).mem = s.mem := rfl
@[simp] theorem ringWrite_fault (s : State) (p : Addr) (v : Byte) : (s.ringWrite p v).fault = s.fault := rfl
@[simp] theorem ringWrite_cfg (s : State) (p : Addr) (v : Byte) : (s.ringWrite p v).cfg = s.cfg := rfl

@[simp] theorem push_a (v : Byte) (s : State) : (push v s).a = s.a := rfl
@[simp] theorem push_x (v : Byte) (s : State) : (push v s).x = s.x := rfl
@[simp] theorem push_pc (v : Byte) (s : State) : (push v s).pc = s.pc := rfl
@[simp] theorem push_flagH (v : Byte) (s : State) : (push v s).flagH = s.flagH := rfl
@[simp] theorem push_flagI (v : Byte) (s : State) : (push v s).flagI = s.flagI := rfl
@[simp] theorem push_flagN (v : Byte) (s : State) : (push v s).flagN = s.flagN := rfl
@[simp] theorem push_flagZ (v : Byte) (s : State) : (push v s).flagZ = s.flagZ := rfl
@[simp] theorem push_flagC (v : Byte) (s : State) : (push v s).flagC = s.flagC := rfl
@[simp] theorem push_sp (v : Byte) (s : State) : (push v s).sp = spDown s.cfg s.sp := rfl
@[simp] theorem push_ring (v : Byte) (s : State) : (push v s).ring = s.ring.set ((spDown s.cfg s.sp).toNat - stackBottom s.cfg) v := rfl
@[simp] theorem push_mem (v : Byte) (s : State) : (push v s).mem = s.mem := rfl
@[simp] theorem push_fault (v : Byte) (s : State) : (push v s).fault = s.fault := rfl
@[simp] theorem push_cfg (v : Byte) (s : State) : (push v s).cfg = s.cfg := rfl

@[simp] theorem pop_snd_a (s : State) : (pop s).2.a = s.a := rfl
@[simp] theorem pop_snd_x (s : State) : (pop s).2.x = s.x := rfl
@[simp] theorem pop_snd_pc (s : State) : (pop s).2.pc = s.pc := rfl
@[simp] theorem pop_snd_flagH (s : State) : (pop s).2.flagH = s.flagH := rfl
@[simp] theorem pop_snd_flagI (s : State) : (pop s).2.flagI = s.flagI := rfl
@[simp] theorem pop_snd_flagN (s : State) : (pop s).2.flagN = s.flagN := rfl
@[simp] theorem pop_snd_flagZ (s : State) : (pop s).2.flagZ = s.flagZ := rfl
@[simp] theorem pop_snd_flagC (s : State) : (pop s).2.flagC = s.flagC := rfl
@[simp] theorem pop_snd_sp (s : State) : (pop s).2.sp = spUp s.cfg s.sp := rfl
@[simp] theorem pop_snd_ring (s : State) : (pop s).2.ring = s.ring := rfl
@[simp] theorem pop_snd_mem (s : State) : (pop s).2.mem = s.mem := rfl
@[simp] theorem pop_snd_fault (s : State) : (pop s).2.fault = s.fault := rfl
@[simp] theorem pop_snd_cfg (s : State) : (pop s).2.cfg = s.cfg := rfl

@[simp] theorem push16_a (v : BitVec 16) (s : State) : (push16 v s).a = s.a := rfl
@[simp] theorem push16_x (v : BitVec 16) (s : State) : (push16 v s).x = s.x := rfl
@[simp] theorem push16_pc (v : BitVec 16) (s : State) : (push16 v s).pc = s.pc := rfl
@[simp] theorem push16_flagH (v : BitVec 16) (s : State) : (push16 v s).flagH = s.flagH := rfl
@[simp] theorem push16_flagI (v : BitVec 16) (s : State) : (push16 v s).flagI = s.flagI := rfl
@[simp] theorem push16_flagN (v : BitVec 16) (s : State) : (push16 v s).flagN = s.flagN := rfl
@[simp] theorem push16_flagZ (v : BitVec 16) (s : State) : (push16 v s).flagZ = s.flagZ := rfl
@[simp] theorem push16_flagC (v : BitVec 16) (s : State) : (push16 v s).flagC = s.flagC := rfl
@[simp] theorem push16_sp (v : BitVec 16) (s : State) : (push16 v s).sp = spDown s.cfg (spDown s.cfg s.sp) := rfl
@[simp] theorem push16_mem (v : BitVec 16) (s : State) : (push16 v s).mem = s.mem := rfl
@[simp] theorem push16_fault (v : BitVec 16) (s : State) : (push16 v s).fault = s.fault := rfl
@[simp] theorem push16_cfg (v : BitVec 16) (s : State) : (push16 v s).cfg = s.cfg := rfl

@[simp] theorem pop16_snd_a (s : State) : (pop16 s).2.a = s.a := rfl
@[simp] theorem pop16_snd_x (s : State) : (pop16 s).2.x = s.x := rfl
@[simp] theorem pop16_snd_pc (s : State) : (pop16 s).2.pc = s.pc := rfl
@[simp] theorem pop16_snd_flagH (s : State) : (pop16 s).2.flagH = s.flagH := rfl
@[simp] theorem pop16_snd_flagI (s : State) : (pop16 s).2.flagI = s.flagI := rfl
@[simp] theorem pop16_snd_flagN (s : State) : (pop16 s).2.flagN = s.flagN := rfl
@[simp] theorem pop16_snd_flagZ (s : State) : (pop16 s).2.flagZ = s.flagZ := rfl
@[simp] theorem pop16_snd_flagC (s : State) : (pop16 s).2.flagC = s.flagC := rfl
@[simp] theorem pop16_snd_sp (s : State) : (pop16 s).2.sp = spUp s.cfg (spUp s.cfg s.sp) := rfl
@[simp] theorem pop16_snd_ring (s : State) : (pop16 s).2.ring = s.ring := rfl
@[simp] theorem pop16_snd_mem (s : State) : (pop16 s).2.mem = s.mem := rfl
@[simp] theorem pop16_snd_fault (s : State) : (pop16 s).2.fault = s.fault := rfl
@[simp] theorem pop16_snd_cfg (s : State) : (pop16 s).2.cfg = s.cfg := rfl

@[simp] theorem latchUnknownOpcode_a (s : State) (b : Byte) : (s.latchUnknownOpcode b).a = s.a := rfl
@[simp] theorem latchUnknownOpcode_x (s : State) (b : Byte) : (s.latchUnknownOpcode b).x = s.x := rfl
@[simp] theorem latchUnknownOpcode_pc (s : State) (b : Byte) : (s.latchUnknownOpcode b).pc = s.pc := rfl
@[simp] theorem latchUnknownOpcode_flagH (s : State) (b : Byte) : (s.latchUnknownOpcode b).flagH = s.flagH := rfl
@[simp] theorem latchUnknownOpcode_flagI (s : State) (b : Byte) : (s.latchUnknownOpcode b).flagI = s.flagI := rfl
@[simp] theorem latchUnknownOpcode_flagN (s : State) (b : Byte) : (s.latchUnknownOpcode b).flagN = s.flagN := rfl
@[simp] theorem latchUnknownOpcode_flagZ (s : State) (b : Byte) : (s.latchUnknownOpcode b).flagZ = s.flagZ := rfl
@[simp] theorem latchUnknownOpcode_flagC (s : State) (b : Byte) : (s.latchUnknownOpcode b).flagC = s.flagC := rfl
@[simp] theorem latchUnknownOpcode_sp (s : State) (b : Byte) : (s.latchUnknownOpcode b).sp = s.sp := rfl
@[simp] theorem latchUnknownOpcode_ring (s : State) (b : Byte) : (s.latchUnknownOpcode b).ring = s.ring := rfl
@[simp] theorem latchUnknownOpcode_mem (s : State) (b : Byte) : (s.latchUnknownOpcode b).mem = s.mem := rfl
@[simp] theorem latchUnknownOpcode_fault (s : State) (b : Byte) : (s.latchUnknownOpcode b).fault = some { cause := .unknownOpcode, pc0 := s.pc, opcode := b } := rfl
@[simp] theorem latchUnknownOpcode_cfg (s : State) (b : Byte) : (s.latchUnknownOpcode b).cfg = s.cfg := rfl

/-! Memory reads under the updates that leave memory alone. -/

@[simp] theorem withNZ_memRead (s : State) (r : Byte) (q : Addr) : (s.withNZ r).memRead q = s.memRead q := rfl
@[simp] theorem unpackCcr_memRead (s : State) (b : Byte) (q : Addr) : (s.unpackCcr b).memRead q = s.memRead q := rfl
@[simp] theorem ringWrite_memRead (s : State) (p : Addr) (v : Byte) (q : Addr) : (s.ringWrite p v).memRead q = s.memRead q := rfl
@[simp] theorem push_memRead (v : Byte) (s : State) (q : Addr) : (push v s).memRead q = s.memRead q := rfl
@[simp] theorem pop_snd_memRead (s : State) (q : Addr) : (pop s).2.memRead q = s.memRead q := rfl
@[simp] theorem push16_memRead (v : BitVec 16) (s : State) (q : Addr) : (push16 v s).memRead q = s.memRead q := rfl
@[simp] theorem pop16_snd_memRead (s : State) (q : Addr) : (pop16 s).2.memRead q = s.memRead q := rfl
@[simp] theorem latchUnknownOpcode_memRead (s : State) (b : Byte) (q : Addr) : (s.latchUnknownOpcode b).memRead q = s.memRead q := rfl

end Sys2Proof.Machine
end

