-- ==== Sys2Proof/Laws/Memory.lean ====
section
/-! SUPPORT. The laws of memory: every write keeps the canonical form, and in that form a read after a write gives the value
written at that address and the old value at every other. -/

namespace Sys2Proof.Machine

theorem Memory.wfFrom_cons {fill : Byte} {low k : Nat} {v : Byte} {rest : Memory} :
    Memory.wfFrom fill low ((k, v) :: rest) = true ↔
      low ≤ k ∧ k < 65536 ∧ v ≠ fill ∧ Memory.wfFrom fill (k + 1) rest = true := by
  simp [Memory.wfFrom, and_assoc]

/-- A form that starts higher also starts lower. -/
theorem Memory.wfFrom_mono {fill : Byte} {lo hi : Nat} (h : lo ≤ hi) :
    ∀ {m : Memory}, Memory.wfFrom fill hi m = true → Memory.wfFrom fill lo m = true
  | [], _ => rfl
  | (k, v) :: rest, hm => by
    rw [Memory.wfFrom_cons] at hm ⊢
    exact ⟨h.trans hm.1, hm.2⟩

/-- Below its first address a canonical memory reads `fill`. -/
theorem Memory.read_below {fill : Byte} {n : Nat} :
    ∀ {low : Nat} {m : Memory}, Memory.wfFrom fill low m = true → n < low → Memory.read fill m n = fill
  | _, [], _, _ => rfl
  | low, (k, v) :: rest, hm, hn => by
    rw [Memory.wfFrom_cons] at hm
    have hk : n ≠ k := by omega
    simp only [Memory.read, hk, if_false]
    exact Memory.read_below hm.2.2.2 (by omega)

/-- A write keeps the canonical form. -/
theorem Memory.write_wfFrom {fill : Byte} {n : Nat} {b : Byte} (hn : n < 65536) :
    ∀ {low : Nat} {m : Memory}, low ≤ n → Memory.wfFrom fill low m = true →
      Memory.wfFrom fill low (Memory.write fill m n b) = true
  | low, [], hl, _ => by
    by_cases hb : b = fill
    · simp [Memory.write, Memory.wfFrom, hb]
    · simp [Memory.write, Memory.wfFrom, hb, hl, hn]
  | low, (k, v) :: rest, hl, hm => by
    have hm' := Memory.wfFrom_cons.mp hm
    obtain ⟨h1, h2, h3, h4⟩ := hm'
    simp only [Memory.write]
    split
    · split
      · exact hm
      · exact Memory.wfFrom_cons.mpr ⟨hl, hn, ‹_›, Memory.wfFrom_cons.mpr ⟨by omega, h2, h3, h4⟩⟩
    · split
      · subst n
        split
        · exact Memory.wfFrom_mono (by omega) h4
        · exact Memory.wfFrom_cons.mpr ⟨hl, hn, ‹_›, h4⟩
      · exact Memory.wfFrom_cons.mpr ⟨h1, h2, h3, Memory.write_wfFrom hn (by omega) h4⟩

/-- Every write of a byte at a 16-bit address keeps the canonical form. -/
theorem Memory.write_wf {fill : Byte} {m : Memory} {n : Nat} {b : Byte} (hn : n < 65536)
    (hm : Memory.wf fill m = true) : Memory.wf fill (Memory.write fill m n b) = true :=
  Memory.write_wfFrom hn (Nat.zero_le n) hm

/-- Reading any address after a write, in a canonical memory. -/
theorem Memory.read_write {fill : Byte} {n : Nat} {b : Byte} (q : Nat) :
    ∀ {low : Nat} {m : Memory}, Memory.wfFrom fill low m = true →
      Memory.read fill (Memory.write fill m n b) q = if q = n then b else Memory.read fill m q
  | low, [], _ => by
    by_cases hb : b = fill <;> by_cases hq : q = n <;> simp [Memory.write, Memory.read, hb, hq]
  | low, (k, v) :: rest, hm => by
    obtain ⟨h1, h2, h3, h4⟩ := Memory.wfFrom_cons.mp hm
    simp only [Memory.write]
    split
    · split
      · by_cases hq : q = n
        · have hk : q ≠ k := by omega
          subst_vars
          simp [Memory.read, hk, Memory.read_below h4 (show q < k + 1 by omega)]
        · simp [hq]
      · by_cases hq : q = n <;> simp [Memory.read, hq]
    · split
      · subst n
        split
        · by_cases hq : q = k
          · subst_vars
            simp [Memory.read_below h4 (show k < k + 1 by omega)]
          · simp [Memory.read, hq]
        · by_cases hq : q = k <;> simp [Memory.read, hq]
      · by_cases hq : q = k
        · have : q ≠ n := by omega
          subst_vars
          simp [Memory.read, this]
        · simp only [Memory.read, hq, if_false]
          exact Memory.read_write q h4

/-- `MemWrite` keeps the canonical form. -/
theorem memWrite_wf {s : State} (p : Addr) (v : Byte) (h : Memory.wf s.cfg.fill s.mem = true) :
    Memory.wf (s.memWrite p v).cfg.fill (s.memWrite p v).mem = true :=
  Memory.write_wf p.isLt h

/-- `MemRead` after `MemWrite`. -/
theorem memRead_memWrite {s : State} (h : Memory.wf s.cfg.fill s.mem = true) (p q : Addr) (v : Byte) :
    (s.memWrite p v).memRead q = if q = p then v else s.memRead q := by
  have hq : q.toNat = p.toNat ↔ q = p := BitVec.toNat_inj
  show Memory.read s.cfg.fill (Memory.write s.cfg.fill s.mem p.toNat v) q.toNat = _
  rw [Memory.read_write q.toNat h]
  simp only [hq]
  rfl

/-- Writing a list of bytes changes `mem` only, and keeps its canonical form. -/
theorem writeBytes_frame : ∀ (bytes : List Byte) (s : State) (p : Addr),
    writeBytes s p bytes = { s with mem := (writeBytes s p bytes).mem } ∧
      (Memory.wf s.cfg.fill s.mem = true → Memory.wf s.cfg.fill (writeBytes s p bytes).mem = true)
  | [], _, _ => ⟨rfl, id⟩
  | b :: rest, s, p => by
    obtain ⟨h1, h2⟩ := writeBytes_frame rest (s.memWrite p b) (p + 1)
    refine ⟨?_, fun h => h2 (memWrite_wf p b h)⟩
    show writeBytes (s.memWrite p b) (p + 1) rest = _
    rw [h1]
    rfl

end Sys2Proof.Machine
end

