-- ==== Sys2Proof/Laws/Ops.lean ====
section
/-! SUPPORT. One lemma for each shared operation saying all it can do: bytes of an address, the stack window, the ring, the trap, and
the runners every meaning calls. -/

namespace Sys2Proof.Machine

/-! ### Bytes of an address -/

@[simp] theorem joinBytes_toNat (h l : Byte) : (joinBytes h l).toNat = h.toNat * 256 + l.toNat := by
  have := h.isLt
  have := l.isLt
  simp only [joinBytes, BitVec.toNat_ofNat]
  omega

@[simp] theorem highByte_toNat (v : BitVec 16) : (highByte v).toNat = v.toNat / 256 := by
  have := v.isLt
  simp only [highByte, BitVec.extractLsb'_toNat, Nat.shiftRight_eq_div_pow]
  omega

@[simp] theorem lowByte_toNat (v : BitVec 16) : (lowByte v).toNat = v.toNat % 256 := by
  simp [lowByte, BitVec.extractLsb'_toNat]

/-- Splitting an address into its bytes and joining them gives it back. -/
@[simp] theorem joinBytes_high_low (v : BitVec 16) : joinBytes (highByte v) (lowByte v) = v := by
  apply BitVec.eq_of_toNat_eq
  simp only [joinBytes_toNat, highByte_toNat, lowByte_toNat]
  omega

@[simp] theorem highByte_joinBytes (h l : Byte) : highByte (joinBytes h l) = h := by
  have := l.isLt
  apply BitVec.eq_of_toNat_eq
  simp only [joinBytes_toNat, highByte_toNat]
  omega

@[simp] theorem lowByte_joinBytes (h l : Byte) : lowByte (joinBytes h l) = l := by
  have := l.isLt
  apply BitVec.eq_of_toNat_eq
  simp only [joinBytes_toNat, lowByte_toNat]
  omega

/-! ### The stack window -/

/-- The parameters as inequalities and a table check. -/
theorem Config.wf_iff {c : Config} : c.wf = true ↔
    c.fill ≠ 0 ∧ 1 ≤ c.stackSize ∧ c.stackSize ≤ c.stackTop.toNat + 1 ∧ c.ringInit.length = c.stackSize ∧
        c.optabOk = true := by
  simp [Config.wf, Config.fillOk, Config.sizePos, Config.sizeFits, Config.ringOk, and_assoc]

theorem spDown_toNat {c : Config} {sp : Addr} :
    (spDown c sp).toNat = if sp.toNat ≤ stackBottom c then c.stackTop.toNat else sp.toNat - 1 := by
  unfold spDown
  split
  · rfl
  · have := sp.isLt
    rw [BitVec.toNat_sub]
    simp
    omega

theorem spUp_toNat {c : Config} {sp : Addr} (hc : 1 ≤ c.stackSize) :
    (spUp c sp).toNat = if c.stackTop.toNat < sp.toNat + 1 then stackBottom c else sp.toNat + 1 := by
  have := c.stackTop.isLt
  unfold spUp
  split
  · simp only [BitVec.toNat_ofNat, stackBottom]
    omega
  · rw [BitVec.toNat_add]
    simp
    omega

/-- In the stack window, a step down and a step up cancel. -/
theorem spUp_spDown {c : Config} {sp : Addr} (h1 : 1 ≤ c.stackSize) (hge : stackBottom c ≤ sp.toNat)
    (hle : sp.toNat ≤ c.stackTop.toNat) : spUp c (spDown c sp) = sp := by
  apply BitVec.eq_of_toNat_eq
  rw [spUp_toNat h1, spDown_toNat]
  by_cases hb : sp.toNat ≤ stackBottom c
  · rw [if_pos hb, if_pos (by omega)]
    omega
  · rw [if_neg hb, if_neg (by omega)]
    omega

/-- A step down stays in the stack window. -/
theorem spDown_window {c : Config} {sp : Addr} (h1 : 1 ≤ c.stackSize) (hle : sp.toNat ≤ c.stackTop.toNat) :
    stackBottom c ≤ (spDown c sp).toNat ∧ (spDown c sp).toNat ≤ c.stackTop.toNat := by
  have hs : stackBottom c = c.stackTop.toNat + 1 - c.stackSize := rfl
  rw [spDown_toNat]
  by_cases hb : sp.toNat ≤ stackBottom c
  · rw [if_pos hb]
    omega
  · rw [if_neg hb]
    omega

/-- A step up stays in the stack window. -/
theorem spUp_window {c : Config} {sp : Addr} (h1 : 1 ≤ c.stackSize) (hge : stackBottom c ≤ sp.toNat) :
    stackBottom c ≤ (spUp c sp).toNat ∧ (spUp c sp).toNat ≤ c.stackTop.toNat := by
  have hs : stackBottom c = c.stackTop.toNat + 1 - c.stackSize := rfl
  rw [spUp_toNat h1]
  by_cases hb : c.stackTop.toNat < sp.toNat + 1
  · rw [if_pos hb]
    omega
  · rw [if_neg hb]
    omega

/-! ### The ring -/

/-- All a push does, in one record. -/
theorem push_eq (v : Byte) (s : State) : push v s = { s with
    sp := spDown s.cfg s.sp
    ring := s.ring.set ((spDown s.cfg s.sp).toNat - stackBottom s.cfg) v } := rfl

/-- All a pop does, in one pair. -/
theorem pop_eq (s : State) : pop s = (s.ringRead s.sp, { s with sp := spUp s.cfg s.sp }) := rfl

/-- All a two-byte push does. -/
theorem push16_eq (v : BitVec 16) (s : State) : push16 v s = push (highByte v) (push (lowByte v) s) := rfl

/-- All a two-byte pop does. -/
theorem pop16_eq (s : State) : pop16 s =
    (joinBytes (s.ringRead s.sp) (s.ringRead (spUp s.cfg s.sp)), { s with sp := spUp s.cfg (spUp s.cfg s.sp) }) := rfl

@[simp] theorem push_ring_length (v : Byte) (s : State) : (push v s).ring.length = s.ring.length := by
  simp [push_eq]

@[simp] theorem push16_ring_length (v : BitVec 16) (s : State) : (push16 v s).ring.length = s.ring.length := by
  simp [push16_eq]

/-- Reading a cell of the stack window after writing one. -/
theorem ringRead_ringWrite {s : State} {p q : Addr} {v : Byte} (hlen : s.ring.length = s.cfg.stackSize)
    (h1 : s.cfg.stackSize ≤ s.cfg.stackTop.toNat + 1) (hp : stackBottom s.cfg ≤ p.toNat)
    (hpt : p.toNat ≤ s.cfg.stackTop.toNat) (hq : stackBottom s.cfg ≤ q.toNat) :
    (s.ringWrite p v).ringRead q = if q = p then v else s.ringRead q := by
  have hlt : p.toNat - stackBottom s.cfg < s.ring.length := by
    simp only [stackBottom] at *
    omega
  show (s.ring.set (p.toNat - stackBottom s.cfg) v).getD (q.toNat - stackBottom s.cfg) 0 = _
  simp only [List.getD_eq_getElem?_getD, List.getElem?_set]
  by_cases h : q = p
  · subst h
    simp [hlt]
  · have hne : p.toNat - stackBottom s.cfg ≠ q.toNat - stackBottom s.cfg := by
      intro he
      exact h (BitVec.eq_of_toNat_eq (by omega))
    simp [h, hne, State.ringRead, List.getD_eq_getElem?_getD]

/-! ### The trap -/

/-- All the trap entry does: five bytes pushed, `I` set, the target read at the vector. -/
theorem enterTrap_eq (ra vector : Addr) (s : State) : enterTrap ra vector s =
    (s.memRead16 vector, { push s.packCcr (push s.a (push s.x (push16 ra s))) with flagI := true }) := by
  simp only [enterTrap, State.memRead16, push_memRead, push16_memRead]

/-- All the trap return does: five bytes popped into the flags, `a`, `x` and the return address. -/
theorem leaveTrap_eq (s : State) : leaveTrap s =
    (let p1 := spUp s.cfg s.sp
     let p2 := spUp s.cfg p1
     let p3 := spUp s.cfg p2
     let p4 := spUp s.cfg p3
     (joinBytes (s.ringRead p3) (s.ringRead p4),
      { s.unpackCcr (s.ringRead s.sp) with a := s.ringRead p1, x := s.ringRead p2, sp := spUp s.cfg p4 })) := by
  simp only [leaveTrap, pop_eq, pop16_eq]
  rfl

/-- Unpacking the packed flags gives them back (10_state.md R19). -/
theorem packCcr_bits (s : State) :
    s.packCcr.getLsbD 4 = s.flagH ∧ s.packCcr.getLsbD 3 = s.flagI ∧ s.packCcr.getLsbD 2 = s.flagN ∧
      s.packCcr.getLsbD 1 = s.flagZ ∧ s.packCcr.getLsbD 0 = s.flagC := by
  unfold State.packCcr
  cases s.flagH <;> cases s.flagI <;> cases s.flagN <;> cases s.flagZ <;> cases s.flagC <;> decide

/-! ### The runners -/

theorem runValue_eq (h : Byte → State → State) (o : ValueOperand) (s : State) :
    runValue h o s = .next { h (readValue o s) s with pc := nextPc (valueFormat o) s } := rfl

theorem runRmw_eq (h : Byte → State → Byte × State) (o : RmwOperand) (s : State) :
    runRmw h o s = .next { writeRmw o (h (readRmw o s) s).1 (h (readRmw o s) s).2 with
      pc := nextPc (rmwFormat o) s } := rfl

theorem runStore_eq (v : Byte) (o : AddrOperand) (s : State) :
    runStore v o s = .next { (s.memWrite (effAddr s.x o) v).withNZ v with pc := nextPc (addrFormat o) s } := rfl

theorem runBranch_eq (cond : Bool) (f : Format) (rr : Byte) (s : State) :
    runBranch cond f rr s = .next { s with pc := if cond then relTarget f rr s else nextPc f s } := by
  cases cond <;> rfl

theorem runCall_eq (f : Format) (target : Addr) (s : State) :
    runCall f target s = .next { push16 (nextPc f s) s with pc := target } := rfl

end Sys2Proof.Machine
end

