-- ==== Sys2Proof/Laws/Forms.lean ====
section
/-! SUPPORT. The instructions by form: a case split over the operand classes instead of the 200 constructors, and for each form what
`exec` runs and how long the instruction is. -/

namespace Sys2Proof

/-- A property of every form is a property of every instruction. -/
theorem Instr.byForm {P : Instr → Prop}
    (value : ∀ op o, P (.ofValue op o)) (rmw : ∀ op o, P (.ofRmw op o)) (tst : ∀ o, P (.ofTst o)) (clr : ∀ o, P (.ofClr o))
    (sta : ∀ o, P (.ofSta o)) (stx : ∀ o i, Instr.ofStx o = some i → P i) (jmp : ∀ o, P (.ofJmp o)) (jsr : ∀ o, P (.ofJsr o))
    (branch : ∀ op rr, P (.ofBranch op rr)) (bset : ∀ n dd, P (.ofBset n dd)) (bclr : ∀ n dd, P (.ofBclr n dd))
    (brset : ∀ n dd rr, P (.ofBrset n dd rr)) (brclr : ∀ n dd rr, P (.ofBrclr n dd rr))
    (mul : P .mul) (rti : P .rti) (rts : P .rts) (swi : P .swi) (stop : P .stop) (wait : P .wait) (tax : P .tax) (txa : P .txa)
    (clc : P .clc) (sec : P .sec) (cli : P .cli) (sei : P .sei) (rsp : P .rsp) (bsr : ∀ rr, P (.bsr rr)) : ∀ i, P i
  | .brset0 dd rr => brset 0 dd rr
  | .brclr0 dd rr => brclr 0 dd rr
  | .brset1 dd rr => brset 1 dd rr
  | .brclr1 dd rr => brclr 1 dd rr
  | .brset2 dd rr => brset 2 dd rr
  | .brclr2 dd rr => brclr 2 dd rr
  | .brset3 dd rr => brset 3 dd rr
  | .brclr3 dd rr => brclr 3 dd rr
  | .brset4 dd rr => brset 4 dd rr
  | .brclr4 dd rr => brclr 4 dd rr
  | .brset5 dd rr => brset 5 dd rr
  | .brclr5 dd rr => brclr 5 dd rr
  | .brset6 dd rr => brset 6 dd rr
  | .brclr6 dd rr => brclr 6 dd rr
  | .brset7 dd rr => brset 7 dd rr
  | .brclr7 dd rr => brclr 7 dd rr
  | .bset0 dd => bset 0 dd
  | .bclr0 dd => bclr 0 dd
  | .bset1 dd => bset 1 dd
  | .bclr1 dd => bclr 1 dd
  | .bset2 dd => bset 2 dd
  | .bclr2 dd => bclr 2 dd
  | .bset3 dd => bset 3 dd
  | .bclr3 dd => bclr 3 dd
  | .bset4 dd => bset 4 dd
  | .bclr4 dd => bclr 4 dd
  | .bset5 dd => bset 5 dd
  | .bclr5 dd => bclr 5 dd
  | .bset6 dd => bset 6 dd
  | .bclr6 dd => bclr 6 dd
  | .bset7 dd => bset 7 dd
  | .bclr7 dd => bclr 7 dd
  | .bra rr => branch .bra rr
  | .brn rr => branch .brn rr
  | .bhi rr => branch .bhi rr
  | .bls rr => branch .bls rr
  | .bcc rr => branch .bcc rr
  | .bcs rr => branch .bcs rr
  | .bne rr => branch .bne rr
  | .beq rr => branch .beq rr
  | .bhcc rr => branch .bhcc rr
  | .bhcs rr => branch .bhcs rr
  | .bpl rr => branch .bpl rr
  | .bmi rr => branch .bmi rr
  | .bmc rr => branch .bmc rr
  | .bms rr => branch .bms rr
  | .negDir dd => rmw .neg (.dir dd)
  | .comDir dd => rmw .com (.dir dd)
  | .lsrDir dd => rmw .lsr (.dir dd)
  | .rorDir dd => rmw .ror (.dir dd)
  | .asrDir dd => rmw .asr (.dir dd)
  | .lslDir dd => rmw .lsl (.dir dd)
  | .rolDir dd => rmw .rol (.dir dd)
  | .decDir dd => rmw .dec (.dir dd)
  | .incDir dd => rmw .inc (.dir dd)
  | .tstDir dd => tst (.dir dd)
  | .clrDir dd => clr (.dir dd)
  | .nega => rmw .neg .acc
  | .mul => mul
  | .coma => rmw .com .acc
  | .lsra => rmw .lsr .acc
  | .rora => rmw .ror .acc
  | .asra => rmw .asr .acc
  | .lsla => rmw .lsl .acc
  | .rola => rmw .rol .acc
  | .deca => rmw .dec .acc
  | .inca => rmw .inc .acc
  | .tsta => tst .acc
  | .clra => clr .acc
  | .negx => rmw .neg .index
  | .comx => rmw .com .index
  | .lsrx => rmw .lsr .index
  | .rorx => rmw .ror .index
  | .asrx => rmw .asr .index
  | .lslx => rmw .lsl .index
  | .rolx => rmw .rol .index
  | .decx => rmw .dec .index
  | .incx => rmw .inc .index
  | .tstx => tst .index
  | .clrx => clr .index
  | .negIx1 ff => rmw .neg (.ix1 ff)
  | .comIx1 ff => rmw .com (.ix1 ff)
  | .lsrIx1 ff => rmw .lsr (.ix1 ff)
  | .rorIx1 ff => rmw .ror (.ix1 ff)
  | .asrIx1 ff => rmw .asr (.ix1 ff)
  | .lslIx1 ff => rmw .lsl (.ix1 ff)
  | .rolIx1 ff => rmw .rol (.ix1 ff)
  | .decIx1 ff => rmw .dec (.ix1 ff)
  | .incIx1 ff => rmw .inc (.ix1 ff)
  | .tstIx1 ff => tst (.ix1 ff)
  | .clrIx1 ff => clr (.ix1 ff)
  | .negIx => rmw .neg .ix
  | .comIx => rmw .com .ix
  | .lsrIx => rmw .lsr .ix
  | .rorIx => rmw .ror .ix
  | .asrIx => rmw .asr .ix
  | .lslIx => rmw .lsl .ix
  | .rolIx => rmw .rol .ix
  | .decIx => rmw .dec .ix
  | .incIx => rmw .inc .ix
  | .tstIx => tst .ix
  | .clrIx => clr .ix
  | .rti => rti
  | .rts => rts
  | .swi => swi
  | .stop => stop
  | .wait => wait
  | .tax => tax
  | .clc => clc
  | .sec => sec
  | .cli => cli
  | .sei => sei
  | .rsp => rsp
  | .txa => txa
  | .subImm ii => value .sub (.imm ii)
  | .cmpImm ii => value .cmp (.imm ii)
  | .sbcImm ii => value .sbc (.imm ii)
  | .cpxImm ii => value .cpx (.imm ii)
  | .andImm ii => value .and (.imm ii)
  | .ldaImm ii => value .lda (.imm ii)
  | .eorImm ii => value .eor (.imm ii)
  | .adcImm ii => value .adc (.imm ii)
  | .oraImm ii => value .ora (.imm ii)
  | .addImm ii => value .add (.imm ii)
  | .bsr rr => bsr rr
  | .ldxImm ii => value .ldx (.imm ii)
  | .subDir dd => value .sub (.mem (.dir dd))
  | .cmpDir dd => value .cmp (.mem (.dir dd))
  | .sbcDir dd => value .sbc (.mem (.dir dd))
  | .cpxDir dd => value .cpx (.mem (.dir dd))
  | .andDir dd => value .and (.mem (.dir dd))
  | .ldaDir dd => value .lda (.mem (.dir dd))
  | .staDir dd => sta (.dir dd)
  | .eorDir dd => value .eor (.mem (.dir dd))
  | .adcDir dd => value .adc (.mem (.dir dd))
  | .oraDir dd => value .ora (.mem (.dir dd))
  | .addDir dd => value .add (.mem (.dir dd))
  | .jmpDir dd => jmp (.dir dd)
  | .jsrDir dd => jsr (.dir dd)
  | .ldxDir dd => value .ldx (.mem (.dir dd))
  | .stxDir dd => stx (.dir dd) _ rfl
  | .subExt hhll => value .sub (.mem (.ext hhll))
  | .cmpExt hhll => value .cmp (.mem (.ext hhll))
  | .sbcExt hhll => value .sbc (.mem (.ext hhll))
  | .cpxExt hhll => value .cpx (.mem (.ext hhll))
  | .andExt hhll => value .and (.mem (.ext hhll))
  | .ldaExt hhll => value .lda (.mem (.ext hhll))
  | .staExt hhll => sta (.ext hhll)
  | .eorExt hhll => value .eor (.mem (.ext hhll))
  | .adcExt hhll => value .adc (.mem (.ext hhll))
  | .oraExt hhll => value .ora (.mem (.ext hhll))
  | .addExt hhll => value .add (.mem (.ext hhll))
  | .jmpExt hhll => jmp (.ext hhll)
  | .jsrExt hhll => jsr (.ext hhll)
  | .ldxExt hhll => value .ldx (.mem (.ext hhll))
  | .stxExt hhll => stx (.ext hhll) _ rfl
  | .subIx2 eeff => value .sub (.mem (.ix2 eeff))
  | .cmpIx2 eeff => value .cmp (.mem (.ix2 eeff))
  | .sbcIx2 eeff => value .sbc (.mem (.ix2 eeff))
  | .cpxIx2 eeff => value .cpx (.mem (.ix2 eeff))
  | .andIx2 eeff => value .and (.mem (.ix2 eeff))
  | .ldaIx2 eeff => value .lda (.mem (.ix2 eeff))
  | .staIx2 eeff => sta (.ix2 eeff)
  | .eorIx2 eeff => value .eor (.mem (.ix2 eeff))
  | .adcIx2 eeff => value .adc (.mem (.ix2 eeff))
  | .oraIx2 eeff => value .ora (.mem (.ix2 eeff))
  | .addIx2 eeff => value .add (.mem (.ix2 eeff))
  | .jmpIx2 eeff => jmp (.ix2 eeff)
  | .jsrIx2 eeff => jsr (.ix2 eeff)
  | .ldxIx2 eeff => value .ldx (.mem (.ix2 eeff))
  | .stxIx2 eeff => stx (.ix2 eeff) _ rfl
  | .subIx1 ff => value .sub (.mem (.ix1 ff))
  | .cmpIx1 ff => value .cmp (.mem (.ix1 ff))
  | .sbcIx1 ff => value .sbc (.mem (.ix1 ff))
  | .cpxIx1 ff => value .cpx (.mem (.ix1 ff))
  | .andIx1 ff => value .and (.mem (.ix1 ff))
  | .ldaIx1 ff => value .lda (.mem (.ix1 ff))
  | .staIx1 ff => sta (.ix1 ff)
  | .eorIx1 ff => value .eor (.mem (.ix1 ff))
  | .adcIx1 ff => value .adc (.mem (.ix1 ff))
  | .oraIx1 ff => value .ora (.mem (.ix1 ff))
  | .addIx1 ff => value .add (.mem (.ix1 ff))
  | .jmpIx1 ff => jmp (.ix1 ff)
  | .jsrIx1 ff => jsr (.ix1 ff)
  | .ldxIx1 ff => value .ldx (.mem (.ix1 ff))
  | .stxIx1 ff => stx (.ix1 ff) _ rfl
  | .subIx => value .sub (.mem .ix)
  | .cmpIx => value .cmp (.mem .ix)
  | .sbcIx => value .sbc (.mem .ix)
  | .cpxIx => value .cpx (.mem .ix)
  | .andIx => value .and (.mem .ix)
  | .ldaIx => value .lda (.mem .ix)
  | .staIx => sta .ix
  | .eorIx => value .eor (.mem .ix)
  | .adcIx => value .adc (.mem .ix)
  | .oraIx => value .ora (.mem .ix)
  | .addIx => value .add (.mem .ix)
  | .jmpIx => jmp .ix
  | .jsrIx => jsr .ix
  | .ldxIx => value .ldx (.mem .ix)

end Sys2Proof

namespace Sys2Proof.Machine

/-- The handler each value-reading mnemonic runs. -/
def valueHandler : ValueOp → Byte → State → State
  | .add => addHandler
  | .adc => adcHandler
  | .sub => subHandler
  | .sbc => sbcHandler
  | .and => andHandler
  | .ora => oraHandler
  | .eor => eorHandler
  | .lda => ldaHandler
  | .ldx => ldxHandler
  | .cmp => cmpHandler
  | .cpx => cpxHandler

/-- The handler each read-modify-write mnemonic runs. -/
def rmwHandler : RmwOp → Byte → State → Byte × State
  | .neg => negHandler
  | .com => comHandler
  | .lsr => lsrHandler
  | .ror => rorHandler
  | .asr => asrHandler
  | .lsl => lslHandler
  | .rol => rolHandler
  | .dec => decHandler
  | .inc => incHandler

theorem exec_ofValue (op : ValueOp) (o : ValueOperand) (s : State) :
    exec (.ofValue op o) s = runValue (valueHandler op) o s := by
  cases o with
  | imm ii => cases op <;> rfl
  | mem o => cases o <;> cases op <;> rfl

theorem exec_ofRmw (op : RmwOp) (o : RmwOperand) (s : State) :
    exec (.ofRmw op o) s = runRmw (rmwHandler op) o s := by
  cases o <;> cases op <;> rfl

theorem exec_ofTst (o : RmwOperand) (s : State) : exec (.ofTst o) s = runTest o s := by
  cases o <;> rfl

theorem exec_ofClr (o : RmwOperand) (s : State) : exec (.ofClr o) s = runClear o s := by
  cases o <;> rfl

theorem exec_ofSta (o : AddrOperand) (s : State) : exec (.ofSta o) s = runStore s.a o s := by
  cases o <;> rfl

theorem exec_ofStx {o : AddrOperand} {i : Instr} (h : Instr.ofStx o = some i) (s : State) : exec i s = runStore s.x o s := by
  cases o <;> cases h <;> rfl

theorem exec_ofJmp (o : AddrOperand) (s : State) : exec (.ofJmp o) s = redirect (effAddr s.x o) s := by
  cases o <;> rfl

theorem exec_ofJsr (o : AddrOperand) (s : State) : exec (.ofJsr o) s = runCall (addrFormat o) (effAddr s.x o) s := by
  cases o <;> rfl

/-- Every branch runs `runBranch` on some condition. -/
theorem exec_ofBranch (op : BranchOp) (rr : Byte) (s : State) :
    ∃ cond, exec (.ofBranch op rr) s = runBranch cond .rel rr s := by
  cases op
  case bra => exact ⟨true, rfl⟩
  case brn => exact ⟨false, rfl⟩
  all_goals exact ⟨_, rfl⟩

theorem exec_ofBset (n : Fin 8) (dd : Byte) (s : State) : exec (.ofBset n dd) s = runBset n dd s := by
  fin_cases n <;> rfl

theorem exec_ofBclr (n : Fin 8) (dd : Byte) (s : State) : exec (.ofBclr n dd) s = runBclr n dd s := by
  fin_cases n <;> rfl

theorem exec_ofBrset (n : Fin 8) (dd rr : Byte) (s : State) : exec (.ofBrset n dd rr) s = runBrset n dd rr s := by
  fin_cases n <;> rfl

theorem exec_ofBrclr (n : Fin 8) (dd rr : Byte) (s : State) : exec (.ofBrclr n dd rr) s = runBrclr n dd rr s := by
  fin_cases n <;> rfl

/-- Pushes change `sp` and the ring only. -/
theorem pushAll_frame : ∀ (vs : List Byte) (s : State),
    pushAll vs s = { s with sp := (pushAll vs s).sp, ring := (pushAll vs s).ring }
  | [], _ => rfl
  | v :: vs, s => by
    show pushAll vs (push v s) = _
    rw [pushAll_frame vs (push v s)]
    rfl

/-- The five bytes a `swi` stacks, in the order it pushes them. -/
def swiBytes (s : State) : List Byte := [lowByte (s.pc + 1), highByte (s.pc + 1), s.x, s.a, s.packCcr]

/-- All a `swi` does. -/
theorem exec_swi (s : State) : exec .swi s = .next { s with
    flagI := true
    sp := (pushAll (swiBytes s) s).sp
    ring := (pushAll (swiBytes s) s).ring
    pc := s.memRead16 s.cfg.swiVector } := by
  have h : exec .swi s = .next { (enterTrap (nextPc .inh s) s.cfg.swiVector s).2 with
    pc := (enterTrap (nextPc .inh s) s.cfg.swiVector s).1 } := rfl
  have e : push s.packCcr (push s.a (push s.x (push16 (nextPc .inh s) s))) = pushAll (swiBytes s) s := rfl
  rw [h, enterTrap_eq, e, pushAll_frame (swiBytes s) s]

theorem exec_rti (s : State) : exec .rti s = .next { (leaveTrap s).2 with pc := (leaveTrap s).1 } := rfl

theorem exec_rts (s : State) : exec .rts s = .next { (pop16 s).2 with pc := (pop16 s).1 } := rfl

theorem len_ofValue (op : ValueOp) (o : ValueOperand) : (Instr.ofValue op o).len = (valueFormat o).len := by
  cases o with
  | imm ii => cases op <;> rfl
  | mem o => cases o <;> cases op <;> rfl

theorem len_ofRmw (op : RmwOp) (o : RmwOperand) : (Instr.ofRmw op o).len = (rmwFormat o).len := by
  cases o <;> cases op <;> rfl

theorem len_ofTst (o : RmwOperand) : (Instr.ofTst o).len = (rmwFormat o).len := by
  cases o <;> rfl

theorem len_ofClr (o : RmwOperand) : (Instr.ofClr o).len = (rmwFormat o).len := by
  cases o <;> rfl

theorem len_ofSta (o : AddrOperand) : (Instr.ofSta o).len = (addrFormat o).len := by
  cases o <;> rfl

theorem len_ofStx {o : AddrOperand} {i : Instr} (h : Instr.ofStx o = some i) : i.len = (addrFormat o).len := by
  cases o <;> cases h <;> rfl

theorem len_ofJsr (o : AddrOperand) : (Instr.ofJsr o).len = (addrFormat o).len := by
  cases o <;> rfl

end Sys2Proof.Machine
end

