-- ==== Sys2Proof/Laws/PerInstr.lean ====
section
/-! SUPPORT. The per-instruction family `EncodedShape`: an encoding is as long as its format says and starts with an
opcode byte to which the default table gives the instruction's descriptor (30_encoding.md R60, R61, R64 (d)). -/

namespace Sys2Proof.Laws

/-- The encoding of `i` has the shape its format gives it. -/
def EncodedShape.Statement (i : Instr) : Prop :=
  (encode i).length = i.len ∧
    (encode i).head?.bind defaultOptab.lookup = some i.descriptor ∧
    ∀ opcode, (i.descriptor.entry opcode).operandBytes = i.format.operandBytes

theorem EncodedShape.brset0 (dd : Byte) (rr : Byte) : EncodedShape.Statement (.brset0 dd rr) :=
  ⟨rfl, rfl, fun _ => rfl⟩
theorem EncodedShape.brclr0 (dd : Byte) (rr : Byte) : EncodedShape.Statement (.brclr0 dd rr) :=
  ⟨rfl, rfl, fun _ => rfl⟩
theorem EncodedShape.brset1 (dd : Byte) (rr : Byte) : EncodedShape.Statement (.brset1 dd rr) :=
  ⟨rfl, rfl, fun _ => rfl⟩
theorem EncodedShape.brclr1 (dd : Byte) (rr : Byte) : EncodedShape.Statement (.brclr1 dd rr) :=
  ⟨rfl, rfl, fun _ => rfl⟩
theorem EncodedShape.brset2 (dd : Byte) (rr : Byte) : EncodedShape.Statement (.brset2 dd rr) :=
  ⟨rfl, rfl, fun _ => rfl⟩
theorem EncodedShape.brclr2 (dd : Byte) (rr : Byte) : EncodedShape.Statement (.brclr2 dd rr) :=
  ⟨rfl, rfl, fun _ => rfl⟩
theorem EncodedShape.brset3 (dd : Byte) (rr : Byte) : EncodedShape.Statement (.brset3 dd rr) :=
  ⟨rfl, rfl, fun _ => rfl⟩
theorem EncodedShape.brclr3 (dd : Byte) (rr : Byte) : EncodedShape.Statement (.brclr3 dd rr) :=
  ⟨rfl, rfl, fun _ => rfl⟩
theorem EncodedShape.brset4 (dd : Byte) (rr : Byte) : EncodedShape.Statement (.brset4 dd rr) :=
  ⟨rfl, rfl, fun _ => rfl⟩
theorem EncodedShape.brclr4 (dd : Byte) (rr : Byte) : EncodedShape.Statement (.brclr4 dd rr) :=
  ⟨rfl, rfl, fun _ => rfl⟩
theorem EncodedShape.brset5 (dd : Byte) (rr : Byte) : EncodedShape.Statement (.brset5 dd rr) :=
  ⟨rfl, rfl, fun _ => rfl⟩
theorem EncodedShape.brclr5 (dd : Byte) (rr : Byte) : EncodedShape.Statement (.brclr5 dd rr) :=
  ⟨rfl, rfl, fun _ => rfl⟩
theorem EncodedShape.brset6 (dd : Byte) (rr : Byte) : EncodedShape.Statement (.brset6 dd rr) :=
  ⟨rfl, rfl, fun _ => rfl⟩
theorem EncodedShape.brclr6 (dd : Byte) (rr : Byte) : EncodedShape.Statement (.brclr6 dd rr) :=
  ⟨rfl, rfl, fun _ => rfl⟩
theorem EncodedShape.brset7 (dd : Byte) (rr : Byte) : EncodedShape.Statement (.brset7 dd rr) :=
  ⟨rfl, rfl, fun _ => rfl⟩
theorem EncodedShape.brclr7 (dd : Byte) (rr : Byte) : EncodedShape.Statement (.brclr7 dd rr) :=
  ⟨rfl, rfl, fun _ => rfl⟩
theorem EncodedShape.bset0 (dd : Byte) : EncodedShape.Statement (.bset0 dd) :=
  ⟨rfl, rfl, fun _ => rfl⟩
theorem EncodedShape.bclr0 (dd : Byte) : EncodedShape.Statement (.bclr0 dd) :=
  ⟨rfl, rfl, fun _ => rfl⟩
theorem EncodedShape.bset1 (dd : Byte) : EncodedShape.Statement (.bset1 dd) :=
  ⟨rfl, rfl, fun _ => rfl⟩
theorem EncodedShape.bclr1 (dd : Byte) : EncodedShape.Statement (.bclr1 dd) :=
  ⟨rfl, rfl, fun _ => rfl⟩
theorem EncodedShape.bset2 (dd : Byte) : EncodedShape.Statement (.bset2 dd) :=
  ⟨rfl, rfl, fun _ => rfl⟩
theorem EncodedShape.bclr2 (dd : Byte) : EncodedShape.Statement (.bclr2 dd) :=
  ⟨rfl, rfl, fun _ => rfl⟩
theorem EncodedShape.bset3 (dd : Byte) : EncodedShape.Statement (.bset3 dd) :=
  ⟨rfl, rfl, fun _ => rfl⟩
theorem EncodedShape.bclr3 (dd : Byte) : EncodedShape.Statement (.bclr3 dd) :=
  ⟨rfl, rfl, fun _ => rfl⟩
theorem EncodedShape.bset4 (dd : Byte) : EncodedShape.Statement (.bset4 dd) :=
  ⟨rfl, rfl, fun _ => rfl⟩
theorem EncodedShape.bclr4 (dd : Byte) : EncodedShape.Statement (.bclr4 dd) :=
  ⟨rfl, rfl, fun _ => rfl⟩
theorem EncodedShape.bset5 (dd : Byte) : EncodedShape.Statement (.bset5 dd) :=
  ⟨rfl, rfl, fun _ => rfl⟩
theorem EncodedShape.bclr5 (dd : Byte) : EncodedShape.Statement (.bclr5 dd) :=
  ⟨rfl, rfl, fun _ => rfl⟩
theorem EncodedShape.bset6 (dd : Byte) : EncodedShape.Statement (.bset6 dd) :=
  ⟨rfl, rfl, fun _ => rfl⟩
theorem EncodedShape.bclr6 (dd : Byte) : EncodedShape.Statement (.bclr6 dd) :=
  ⟨rfl, rfl, fun _ => rfl⟩
theorem EncodedShape.bset7 (dd : Byte) : EncodedShape.Statement (.bset7 dd) :=
  ⟨rfl, rfl, fun _ => rfl⟩
theorem EncodedShape.bclr7 (dd : Byte) : EncodedShape.Statement (.bclr7 dd) :=
  ⟨rfl, rfl, fun _ => rfl⟩
theorem EncodedShape.bra (rr : Byte) : EncodedShape.Statement (.bra rr) :=
  ⟨rfl, rfl, fun _ => rfl⟩
theorem EncodedShape.brn (rr : Byte) : EncodedShape.Statement (.brn rr) :=
  ⟨rfl, rfl, fun _ => rfl⟩
theorem EncodedShape.bhi (rr : Byte) : EncodedShape.Statement (.bhi rr) :=
  ⟨rfl, rfl, fun _ => rfl⟩
theorem EncodedShape.bls (rr : Byte) : EncodedShape.Statement (.bls rr) :=
  ⟨rfl, rfl, fun _ => rfl⟩
theorem EncodedShape.bcc (rr : Byte) : EncodedShape.Statement (.bcc rr) :=
  ⟨rfl, rfl, fun _ => rfl⟩
theorem EncodedShape.bcs (rr : Byte) : EncodedShape.Statement (.bcs rr) :=
  ⟨rfl, rfl, fun _ => rfl⟩
theorem EncodedShape.bne (rr : Byte) : EncodedShape.Statement (.bne rr) :=
  ⟨rfl, rfl, fun _ => rfl⟩
theorem EncodedShape.beq (rr : Byte) : EncodedShape.Statement (.beq rr) :=
  ⟨rfl, rfl, fun _ => rfl⟩
theorem EncodedShape.bhcc (rr : Byte) : EncodedShape.Statement (.bhcc rr) :=
  ⟨rfl, rfl, fun _ => rfl⟩
theorem EncodedShape.bhcs (rr : Byte) : EncodedShape.Statement (.bhcs rr) :=
  ⟨rfl, rfl, fun _ => rfl⟩
theorem EncodedShape.bpl (rr : Byte) : EncodedShape.Statement (.bpl rr) :=
  ⟨rfl, rfl, fun _ => rfl⟩
theorem EncodedShape.bmi (rr : Byte) : EncodedShape.Statement (.bmi rr) :=
  ⟨rfl, rfl, fun _ => rfl⟩
theorem EncodedShape.bmc (rr : Byte) : EncodedShape.Statement (.bmc rr) :=
  ⟨rfl, rfl, fun _ => rfl⟩
theorem EncodedShape.bms (rr : Byte) : EncodedShape.Statement (.bms rr) :=
  ⟨rfl, rfl, fun _ => rfl⟩
theorem EncodedShape.negDir (dd : Byte) : EncodedShape.Statement (.negDir dd) :=
  ⟨rfl, rfl, fun _ => rfl⟩
theorem EncodedShape.comDir (dd : Byte) : EncodedShape.Statement (.comDir dd) :=
  ⟨rfl, rfl, fun _ => rfl⟩
theorem EncodedShape.lsrDir (dd : Byte) : EncodedShape.Statement (.lsrDir dd) :=
  ⟨rfl, rfl, fun _ => rfl⟩
theorem EncodedShape.rorDir (dd : Byte) : EncodedShape.Statement (.rorDir dd) :=
  ⟨rfl, rfl, fun _ => rfl⟩
theorem EncodedShape.asrDir (dd : Byte) : EncodedShape.Statement (.asrDir dd) :=
  ⟨rfl, rfl, fun _ => rfl⟩
theorem EncodedShape.lslDir (dd : Byte) : EncodedShape.Statement (.lslDir dd) :=
  ⟨rfl, rfl, fun _ => rfl⟩
theorem EncodedShape.rolDir (dd : Byte) : EncodedShape.Statement (.rolDir dd) :=
  ⟨rfl, rfl, fun _ => rfl⟩
theorem EncodedShape.decDir (dd : Byte) : EncodedShape.Statement (.decDir dd) :=
  ⟨rfl, rfl, fun _ => rfl⟩
theorem EncodedShape.incDir (dd : Byte) : EncodedShape.Statement (.incDir dd) :=
  ⟨rfl, rfl, fun _ => rfl⟩
theorem EncodedShape.tstDir (dd : Byte) : EncodedShape.Statement (.tstDir dd) :=
  ⟨rfl, rfl, fun _ => rfl⟩
theorem EncodedShape.clrDir (dd : Byte) : EncodedShape.Statement (.clrDir dd) :=
  ⟨rfl, rfl, fun _ => rfl⟩
theorem EncodedShape.nega : EncodedShape.Statement (.nega) :=
  ⟨rfl, rfl, fun _ => rfl⟩
theorem EncodedShape.mul : EncodedShape.Statement (.mul) :=
  ⟨rfl, rfl, fun _ => rfl⟩
theorem EncodedShape.coma : EncodedShape.Statement (.coma) :=
  ⟨rfl, rfl, fun _ => rfl⟩
theorem EncodedShape.lsra : EncodedShape.Statement (.lsra) :=
  ⟨rfl, rfl, fun _ => rfl⟩
theorem EncodedShape.rora : EncodedShape.Statement (.rora) :=
  ⟨rfl, rfl, fun _ => rfl⟩
theorem EncodedShape.asra : EncodedShape.Statement (.asra) :=
  ⟨rfl, rfl, fun _ => rfl⟩
theorem EncodedShape.lsla : EncodedShape.Statement (.lsla) :=
  ⟨rfl, rfl, fun _ => rfl⟩
theorem EncodedShape.rola : EncodedShape.Statement (.rola) :=
  ⟨rfl, rfl, fun _ => rfl⟩
theorem EncodedShape.deca : EncodedShape.Statement (.deca) :=
  ⟨rfl, rfl, fun _ => rfl⟩
theorem EncodedShape.inca : EncodedShape.Statement (.inca) :=
  ⟨rfl, rfl, fun _ => rfl⟩
theorem EncodedShape.tsta : EncodedShape.Statement (.tsta) :=
  ⟨rfl, rfl, fun _ => rfl⟩
theorem EncodedShape.clra : EncodedShape.Statement (.clra) :=
  ⟨rfl, rfl, fun _ => rfl⟩
theorem EncodedShape.negx : EncodedShape.Statement (.negx) :=
  ⟨rfl, rfl, fun _ => rfl⟩
theorem EncodedShape.comx : EncodedShape.Statement (.comx) :=
  ⟨rfl, rfl, fun _ => rfl⟩
theorem EncodedShape.lsrx : EncodedShape.Statement (.lsrx) :=
  ⟨rfl, rfl, fun _ => rfl⟩
theorem EncodedShape.rorx : EncodedShape.Statement (.rorx) :=
  ⟨rfl, rfl, fun _ => rfl⟩
theorem EncodedShape.asrx : EncodedShape.Statement (.asrx) :=
  ⟨rfl, rfl, fun _ => rfl⟩
theorem EncodedShape.lslx : EncodedShape.Statement (.lslx) :=
  ⟨rfl, rfl, fun _ => rfl⟩
theorem EncodedShape.rolx : EncodedShape.Statement (.rolx) :=
  ⟨rfl, rfl, fun _ => rfl⟩
theorem EncodedShape.decx : EncodedShape.Statement (.decx) :=
  ⟨rfl, rfl, fun _ => rfl⟩
theorem EncodedShape.incx : EncodedShape.Statement (.incx) :=
  ⟨rfl, rfl, fun _ => rfl⟩
theorem EncodedShape.tstx : EncodedShape.Statement (.tstx) :=
  ⟨rfl, rfl, fun _ => rfl⟩
theorem EncodedShape.clrx : EncodedShape.Statement (.clrx) :=
  ⟨rfl, rfl, fun _ => rfl⟩
theorem EncodedShape.negIx1 (ff : Byte) : EncodedShape.Statement (.negIx1 ff) :=
  ⟨rfl, rfl, fun _ => rfl⟩
theorem EncodedShape.comIx1 (ff : Byte) : EncodedShape.Statement (.comIx1 ff) :=
  ⟨rfl, rfl, fun _ => rfl⟩
theorem EncodedShape.lsrIx1 (ff : Byte) : EncodedShape.Statement (.lsrIx1 ff) :=
  ⟨rfl, rfl, fun _ => rfl⟩
theorem EncodedShape.rorIx1 (ff : Byte) : EncodedShape.Statement (.rorIx1 ff) :=
  ⟨rfl, rfl, fun _ => rfl⟩
theorem EncodedShape.asrIx1 (ff : Byte) : EncodedShape.Statement (.asrIx1 ff) :=
  ⟨rfl, rfl, fun _ => rfl⟩
theorem EncodedShape.lslIx1 (ff : Byte) : EncodedShape.Statement (.lslIx1 ff) :=
  ⟨rfl, rfl, fun _ => rfl⟩
theorem EncodedShape.rolIx1 (ff : Byte) : EncodedShape.Statement (.rolIx1 ff) :=
  ⟨rfl, rfl, fun _ => rfl⟩
theorem EncodedShape.decIx1 (ff : Byte) : EncodedShape.Statement (.decIx1 ff) :=
  ⟨rfl, rfl, fun _ => rfl⟩
theorem EncodedShape.incIx1 (ff : Byte) : EncodedShape.Statement (.incIx1 ff) :=
  ⟨rfl, rfl, fun _ => rfl⟩
theorem EncodedShape.tstIx1 (ff : Byte) : EncodedShape.Statement (.tstIx1 ff) :=
  ⟨rfl, rfl, fun _ => rfl⟩
theorem EncodedShape.clrIx1 (ff : Byte) : EncodedShape.Statement (.clrIx1 ff) :=
  ⟨rfl, rfl, fun _ => rfl⟩
theorem EncodedShape.negIx : EncodedShape.Statement (.negIx) :=
  ⟨rfl, rfl, fun _ => rfl⟩
theorem EncodedShape.comIx : EncodedShape.Statement (.comIx) :=
  ⟨rfl, rfl, fun _ => rfl⟩
theorem EncodedShape.lsrIx : EncodedShape.Statement (.lsrIx) :=
  ⟨rfl, rfl, fun _ => rfl⟩
theorem EncodedShape.rorIx : EncodedShape.Statement (.rorIx) :=
  ⟨rfl, rfl, fun _ => rfl⟩
theorem EncodedShape.asrIx : EncodedShape.Statement (.asrIx) :=
  ⟨rfl, rfl, fun _ => rfl⟩
theorem EncodedShape.lslIx : EncodedShape.Statement (.lslIx) :=
  ⟨rfl, rfl, fun _ => rfl⟩
theorem EncodedShape.rolIx : EncodedShape.Statement (.rolIx) :=
  ⟨rfl, rfl, fun _ => rfl⟩
theorem EncodedShape.decIx : EncodedShape.Statement (.decIx) :=
  ⟨rfl, rfl, fun _ => rfl⟩
theorem EncodedShape.incIx : EncodedShape.Statement (.incIx) :=
  ⟨rfl, rfl, fun _ => rfl⟩
theorem EncodedShape.tstIx : EncodedShape.Statement (.tstIx) :=
  ⟨rfl, rfl, fun _ => rfl⟩
theorem EncodedShape.clrIx : EncodedShape.Statement (.clrIx) :=
  ⟨rfl, rfl, fun _ => rfl⟩
theorem EncodedShape.rti : EncodedShape.Statement (.rti) :=
  ⟨rfl, rfl, fun _ => rfl⟩
theorem EncodedShape.rts : EncodedShape.Statement (.rts) :=
  ⟨rfl, rfl, fun _ => rfl⟩
theorem EncodedShape.swi : EncodedShape.Statement (.swi) :=
  ⟨rfl, rfl, fun _ => rfl⟩
theorem EncodedShape.stop : EncodedShape.Statement (.stop) :=
  ⟨rfl, rfl, fun _ => rfl⟩
theorem EncodedShape.wait : EncodedShape.Statement (.wait) :=
  ⟨rfl, rfl, fun _ => rfl⟩
theorem EncodedShape.tax : EncodedShape.Statement (.tax) :=
  ⟨rfl, rfl, fun _ => rfl⟩
theorem EncodedShape.clc : EncodedShape.Statement (.clc) :=
  ⟨rfl, rfl, fun _ => rfl⟩
theorem EncodedShape.sec : EncodedShape.Statement (.sec) :=
  ⟨rfl, rfl, fun _ => rfl⟩
theorem EncodedShape.cli : EncodedShape.Statement (.cli) :=
  ⟨rfl, rfl, fun _ => rfl⟩
theorem EncodedShape.sei : EncodedShape.Statement (.sei) :=
  ⟨rfl, rfl, fun _ => rfl⟩
theorem EncodedShape.rsp : EncodedShape.Statement (.rsp) :=
  ⟨rfl, rfl, fun _ => rfl⟩
theorem EncodedShape.txa : EncodedShape.Statement (.txa) :=
  ⟨rfl, rfl, fun _ => rfl⟩
theorem EncodedShape.subImm (ii : Byte) : EncodedShape.Statement (.subImm ii) :=
  ⟨rfl, rfl, fun _ => rfl⟩
theorem EncodedShape.cmpImm (ii : Byte) : EncodedShape.Statement (.cmpImm ii) :=
  ⟨rfl, rfl, fun _ => rfl⟩
theorem EncodedShape.sbcImm (ii : Byte) : EncodedShape.Statement (.sbcImm ii) :=
  ⟨rfl, rfl, fun _ => rfl⟩
theorem EncodedShape.cpxImm (ii : Byte) : EncodedShape.Statement (.cpxImm ii) :=
  ⟨rfl, rfl, fun _ => rfl⟩
theorem EncodedShape.andImm (ii : Byte) : EncodedShape.Statement (.andImm ii) :=
  ⟨rfl, rfl, fun _ => rfl⟩
theorem EncodedShape.ldaImm (ii : Byte) : EncodedShape.Statement (.ldaImm ii) :=
  ⟨rfl, rfl, fun _ => rfl⟩
theorem EncodedShape.eorImm (ii : Byte) : EncodedShape.Statement (.eorImm ii) :=
  ⟨rfl, rfl, fun _ => rfl⟩
theorem EncodedShape.adcImm (ii : Byte) : EncodedShape.Statement (.adcImm ii) :=
  ⟨rfl, rfl, fun _ => rfl⟩
theorem EncodedShape.oraImm (ii : Byte) : EncodedShape.Statement (.oraImm ii) :=
  ⟨rfl, rfl, fun _ => rfl⟩
theorem EncodedShape.addImm (ii : Byte) : EncodedShape.Statement (.addImm ii) :=
  ⟨rfl, rfl, fun _ => rfl⟩
theorem EncodedShape.bsr (rr : Byte) : EncodedShape.Statement (.bsr rr) :=
  ⟨rfl, rfl, fun _ => rfl⟩
theorem EncodedShape.ldxImm (ii : Byte) : EncodedShape.Statement (.ldxImm ii) :=
  ⟨rfl, rfl, fun _ => rfl⟩
theorem EncodedShape.subDir (dd : Byte) : EncodedShape.Statement (.subDir dd) :=
  ⟨rfl, rfl, fun _ => rfl⟩
theorem EncodedShape.cmpDir (dd : Byte) : EncodedShape.Statement (.cmpDir dd) :=
  ⟨rfl, rfl, fun _ => rfl⟩
theorem EncodedShape.sbcDir (dd : Byte) : EncodedShape.Statement (.sbcDir dd) :=
  ⟨rfl, rfl, fun _ => rfl⟩
theorem EncodedShape.cpxDir (dd : Byte) : EncodedShape.Statement (.cpxDir dd) :=
  ⟨rfl, rfl, fun _ => rfl⟩
theorem EncodedShape.andDir (dd : Byte) : EncodedShape.Statement (.andDir dd) :=
  ⟨rfl, rfl, fun _ => rfl⟩
theorem EncodedShape.ldaDir (dd : Byte) : EncodedShape.Statement (.ldaDir dd) :=
  ⟨rfl, rfl, fun _ => rfl⟩
theorem EncodedShape.staDir (dd : Byte) : EncodedShape.Statement (.staDir dd) :=
  ⟨rfl, rfl, fun _ => rfl⟩
theorem EncodedShape.eorDir (dd : Byte) : EncodedShape.Statement (.eorDir dd) :=
  ⟨rfl, rfl, fun _ => rfl⟩
theorem EncodedShape.adcDir (dd : Byte) : EncodedShape.Statement (.adcDir dd) :=
  ⟨rfl, rfl, fun _ => rfl⟩
theorem EncodedShape.oraDir (dd : Byte) : EncodedShape.Statement (.oraDir dd) :=
  ⟨rfl, rfl, fun _ => rfl⟩
theorem EncodedShape.addDir (dd : Byte) : EncodedShape.Statement (.addDir dd) :=
  ⟨rfl, rfl, fun _ => rfl⟩
theorem EncodedShape.jmpDir (dd : Byte) : EncodedShape.Statement (.jmpDir dd) :=
  ⟨rfl, rfl, fun _ => rfl⟩
theorem EncodedShape.jsrDir (dd : Byte) : EncodedShape.Statement (.jsrDir dd) :=
  ⟨rfl, rfl, fun _ => rfl⟩
theorem EncodedShape.ldxDir (dd : Byte) : EncodedShape.Statement (.ldxDir dd) :=
  ⟨rfl, rfl, fun _ => rfl⟩
theorem EncodedShape.stxDir (dd : Byte) : EncodedShape.Statement (.stxDir dd) :=
  ⟨rfl, rfl, fun _ => rfl⟩
theorem EncodedShape.subExt (hhll : Addr) : EncodedShape.Statement (.subExt hhll) :=
  ⟨rfl, rfl, fun _ => rfl⟩
theorem EncodedShape.cmpExt (hhll : Addr) : EncodedShape.Statement (.cmpExt hhll) :=
  ⟨rfl, rfl, fun _ => rfl⟩
theorem EncodedShape.sbcExt (hhll : Addr) : EncodedShape.Statement (.sbcExt hhll) :=
  ⟨rfl, rfl, fun _ => rfl⟩
theorem EncodedShape.cpxExt (hhll : Addr) : EncodedShape.Statement (.cpxExt hhll) :=
  ⟨rfl, rfl, fun _ => rfl⟩
theorem EncodedShape.andExt (hhll : Addr) : EncodedShape.Statement (.andExt hhll) :=
  ⟨rfl, rfl, fun _ => rfl⟩
theorem EncodedShape.ldaExt (hhll : Addr) : EncodedShape.Statement (.ldaExt hhll) :=
  ⟨rfl, rfl, fun _ => rfl⟩
theorem EncodedShape.staExt (hhll : Addr) : EncodedShape.Statement (.staExt hhll) :=
  ⟨rfl, rfl, fun _ => rfl⟩
theorem EncodedShape.eorExt (hhll : Addr) : EncodedShape.Statement (.eorExt hhll) :=
  ⟨rfl, rfl, fun _ => rfl⟩
theorem EncodedShape.adcExt (hhll : Addr) : EncodedShape.Statement (.adcExt hhll) :=
  ⟨rfl, rfl, fun _ => rfl⟩
theorem EncodedShape.oraExt (hhll : Addr) : EncodedShape.Statement (.oraExt hhll) :=
  ⟨rfl, rfl, fun _ => rfl⟩
theorem EncodedShape.addExt (hhll : Addr) : EncodedShape.Statement (.addExt hhll) :=
  ⟨rfl, rfl, fun _ => rfl⟩
theorem EncodedShape.jmpExt (hhll : Addr) : EncodedShape.Statement (.jmpExt hhll) :=
  ⟨rfl, rfl, fun _ => rfl⟩
theorem EncodedShape.jsrExt (hhll : Addr) : EncodedShape.Statement (.jsrExt hhll) :=
  ⟨rfl, rfl, fun _ => rfl⟩
theorem EncodedShape.ldxExt (hhll : Addr) : EncodedShape.Statement (.ldxExt hhll) :=
  ⟨rfl, rfl, fun _ => rfl⟩
theorem EncodedShape.stxExt (hhll : Addr) : EncodedShape.Statement (.stxExt hhll) :=
  ⟨rfl, rfl, fun _ => rfl⟩
theorem EncodedShape.subIx2 (eeff : BitVec 16) : EncodedShape.Statement (.subIx2 eeff) :=
  ⟨rfl, rfl, fun _ => rfl⟩
theorem EncodedShape.cmpIx2 (eeff : BitVec 16) : EncodedShape.Statement (.cmpIx2 eeff) :=
  ⟨rfl, rfl, fun _ => rfl⟩
theorem EncodedShape.sbcIx2 (eeff : BitVec 16) : EncodedShape.Statement (.sbcIx2 eeff) :=
  ⟨rfl, rfl, fun _ => rfl⟩
theorem EncodedShape.cpxIx2 (eeff : BitVec 16) : EncodedShape.Statement (.cpxIx2 eeff) :=
  ⟨rfl, rfl, fun _ => rfl⟩
theorem EncodedShape.andIx2 (eeff : BitVec 16) : EncodedShape.Statement (.andIx2 eeff) :=
  ⟨rfl, rfl, fun _ => rfl⟩
theorem EncodedShape.ldaIx2 (eeff : BitVec 16) : EncodedShape.Statement (.ldaIx2 eeff) :=
  ⟨rfl, rfl, fun _ => rfl⟩
theorem EncodedShape.staIx2 (eeff : BitVec 16) : EncodedShape.Statement (.staIx2 eeff) :=
  ⟨rfl, rfl, fun _ => rfl⟩
theorem EncodedShape.eorIx2 (eeff : BitVec 16) : EncodedShape.Statement (.eorIx2 eeff) :=
  ⟨rfl, rfl, fun _ => rfl⟩
theorem EncodedShape.adcIx2 (eeff : BitVec 16) : EncodedShape.Statement (.adcIx2 eeff) :=
  ⟨rfl, rfl, fun _ => rfl⟩
theorem EncodedShape.oraIx2 (eeff : BitVec 16) : EncodedShape.Statement (.oraIx2 eeff) :=
  ⟨rfl, rfl, fun _ => rfl⟩
theorem EncodedShape.addIx2 (eeff : BitVec 16) : EncodedShape.Statement (.addIx2 eeff) :=
  ⟨rfl, rfl, fun _ => rfl⟩
theorem EncodedShape.jmpIx2 (eeff : BitVec 16) : EncodedShape.Statement (.jmpIx2 eeff) :=
  ⟨rfl, rfl, fun _ => rfl⟩
theorem EncodedShape.jsrIx2 (eeff : BitVec 16) : EncodedShape.Statement (.jsrIx2 eeff) :=
  ⟨rfl, rfl, fun _ => rfl⟩
theorem EncodedShape.ldxIx2 (eeff : BitVec 16) : EncodedShape.Statement (.ldxIx2 eeff) :=
  ⟨rfl, rfl, fun _ => rfl⟩
theorem EncodedShape.stxIx2 (eeff : BitVec 16) : EncodedShape.Statement (.stxIx2 eeff) :=
  ⟨rfl, rfl, fun _ => rfl⟩
theorem EncodedShape.subIx1 (ff : Byte) : EncodedShape.Statement (.subIx1 ff) :=
  ⟨rfl, rfl, fun _ => rfl⟩
theorem EncodedShape.cmpIx1 (ff : Byte) : EncodedShape.Statement (.cmpIx1 ff) :=
  ⟨rfl, rfl, fun _ => rfl⟩
theorem EncodedShape.sbcIx1 (ff : Byte) : EncodedShape.Statement (.sbcIx1 ff) :=
  ⟨rfl, rfl, fun _ => rfl⟩
theorem EncodedShape.cpxIx1 (ff : Byte) : EncodedShape.Statement (.cpxIx1 ff) :=
  ⟨rfl, rfl, fun _ => rfl⟩
theorem EncodedShape.andIx1 (ff : Byte) : EncodedShape.Statement (.andIx1 ff) :=
  ⟨rfl, rfl, fun _ => rfl⟩
theorem EncodedShape.ldaIx1 (ff : Byte) : EncodedShape.Statement (.ldaIx1 ff) :=
  ⟨rfl, rfl, fun _ => rfl⟩
theorem EncodedShape.staIx1 (ff : Byte) : EncodedShape.Statement (.staIx1 ff) :=
  ⟨rfl, rfl, fun _ => rfl⟩
theorem EncodedShape.eorIx1 (ff : Byte) : EncodedShape.Statement (.eorIx1 ff) :=
  ⟨rfl, rfl, fun _ => rfl⟩
theorem EncodedShape.adcIx1 (ff : Byte) : EncodedShape.Statement (.adcIx1 ff) :=
  ⟨rfl, rfl, fun _ => rfl⟩
theorem EncodedShape.oraIx1 (ff : Byte) : EncodedShape.Statement (.oraIx1 ff) :=
  ⟨rfl, rfl, fun _ => rfl⟩
theorem EncodedShape.addIx1 (ff : Byte) : EncodedShape.Statement (.addIx1 ff) :=
  ⟨rfl, rfl, fun _ => rfl⟩
theorem EncodedShape.jmpIx1 (ff : Byte) : EncodedShape.Statement (.jmpIx1 ff) :=
  ⟨rfl, rfl, fun _ => rfl⟩
theorem EncodedShape.jsrIx1 (ff : Byte) : EncodedShape.Statement (.jsrIx1 ff) :=
  ⟨rfl, rfl, fun _ => rfl⟩
theorem EncodedShape.ldxIx1 (ff : Byte) : EncodedShape.Statement (.ldxIx1 ff) :=
  ⟨rfl, rfl, fun _ => rfl⟩
theorem EncodedShape.stxIx1 (ff : Byte) : EncodedShape.Statement (.stxIx1 ff) :=
  ⟨rfl, rfl, fun _ => rfl⟩
theorem EncodedShape.subIx : EncodedShape.Statement (.subIx) :=
  ⟨rfl, rfl, fun _ => rfl⟩
theorem EncodedShape.cmpIx : EncodedShape.Statement (.cmpIx) :=
  ⟨rfl, rfl, fun _ => rfl⟩
theorem EncodedShape.sbcIx : EncodedShape.Statement (.sbcIx) :=
  ⟨rfl, rfl, fun _ => rfl⟩
theorem EncodedShape.cpxIx : EncodedShape.Statement (.cpxIx) :=
  ⟨rfl, rfl, fun _ => rfl⟩
theorem EncodedShape.andIx : EncodedShape.Statement (.andIx) :=
  ⟨rfl, rfl, fun _ => rfl⟩
theorem EncodedShape.ldaIx : EncodedShape.Statement (.ldaIx) :=
  ⟨rfl, rfl, fun _ => rfl⟩
theorem EncodedShape.staIx : EncodedShape.Statement (.staIx) :=
  ⟨rfl, rfl, fun _ => rfl⟩
theorem EncodedShape.eorIx : EncodedShape.Statement (.eorIx) :=
  ⟨rfl, rfl, fun _ => rfl⟩
theorem EncodedShape.adcIx : EncodedShape.Statement (.adcIx) :=
  ⟨rfl, rfl, fun _ => rfl⟩
theorem EncodedShape.oraIx : EncodedShape.Statement (.oraIx) :=
  ⟨rfl, rfl, fun _ => rfl⟩
theorem EncodedShape.addIx : EncodedShape.Statement (.addIx) :=
  ⟨rfl, rfl, fun _ => rfl⟩
theorem EncodedShape.jmpIx : EncodedShape.Statement (.jmpIx) :=
  ⟨rfl, rfl, fun _ => rfl⟩
theorem EncodedShape.jsrIx : EncodedShape.Statement (.jsrIx) :=
  ⟨rfl, rfl, fun _ => rfl⟩
theorem EncodedShape.ldxIx : EncodedShape.Statement (.ldxIx) :=
  ⟨rfl, rfl, fun _ => rfl⟩

end Sys2Proof.Laws
end

