-- ==== Sys2Proof/Tests/Slice0.lean ====
section
/-! SUPPORT. Tests of one step, one operation or one decoding each, with the expected values of 30_encoding.md R65 and
95_test_vectors.md (its T and K numbers are in the names), the ill-formed parameters each check of WellFormed refuses, and a
witness for every statement that has hypotheses. -/

namespace Sys2Proof.Tests

open Sys2Proof.Machine

/-! ### Helpers -/

/-- The reset state with `pc` at `pc`, the flags of a packed byte, and bytes placed from `pc` on. -/
def startAt (pc : Nat) (ccr : Byte) (bytes : List Byte) : State :=
  writeBytes { State.reset.unpackCcr ccr with pc := BitVec.ofNat 16 pc } (BitVec.ofNat 16 pc) bytes

/-- What a test looks at: `a`, `x`, `pc`, `sp`, the packed flags, then memory bytes and ring cells. -/
def seen (r : Result) (mems rings : List Addr) : Option (List Nat) :=
  match r with
  | .next t => some ([t.a.toNat, t.x.toNat, t.pc.toNat, t.sp.toNat, t.packCcr.toNat] ++
      mems.map (fun p => (t.memRead p).toNat) ++ rings.map (fun p => (t.ringRead p).toNat))
  | _ => none

/-- The latched fault after a step: `pc0` and the opcode byte. -/
def latched (r : Result) : Option (Nat × Nat) :=
  match r with
  | .next t => t.fault.map (fun f => (f.pc0.toNat, f.opcode.toNat))
  | _ => none

/-! ### Another decode table, which 00_scope.md R4 and 30_encoding.md R64 allow -/

/-- The default table with `9D` given to `bset` and `42` to nothing. -/
def otherTable : OpTable :=
  (defaultOptab.set 0x9 (column9.set 0xD (some .bset))).set 0x4 (column4.set 0x2 none)

/-- Reset with that table. -/
def otherTableReset : State := State.resetWith { Config.exampleInst with optab := otherTable }

/-- `9D` has 6 in its bits 3 to 1 (30_encoding.md R64 (c)). -/
theorem test_other_table_bset :
    seen (step ((otherTableReset.memWrite 0 0x9D).memWrite 1 0x80 |>.memWrite 0x80 0x01)) [0x0080] [] =
      some [0, 0, 2, 0xFF, 0xE0, 0x41] := by decide
theorem test_other_table_unassigned : latched (step (otherTableReset.memWrite 0 0x42)) = some (0, 0x42) := by decide

/-! ### Well-formedness: each check refuses an ill-formed term (00_scope.md R4) -/

theorem test_wf_example : Config.exampleInst.wf = true := by decide
theorem test_wf_fill_zero_refused : ({ Config.exampleInst with fill := 0 } : Config).wf = false := by decide
theorem test_wf_size_zero_refused :
    ({ Config.exampleInst with stackSize := 0, ringInit := [] } : Config).wf = false := by decide
theorem test_wf_size_above_top_refused :
    ({ Config.exampleInst with stackTop := 3, stackSize := 5, ringInit := [1, 2, 3, 4, 5] } : Config).wf = false := by decide
theorem test_wf_ring_length_refused : ({ Config.exampleInst with ringInit := [0xEE] } : Config).wf = false := by decide
theorem test_wf_table_column_missing_refused :
    ({ Config.exampleInst with optab := defaultOptab.set 0x5 [] } : Config).wf = false := by decide
theorem test_wf_table_column_too_many_refused :
    ({ Config.exampleInst with optab := defaultOptab ++ [column0] } : Config).wf = false := by decide
theorem test_wf_table_without_sub_refused :
    ({ Config.exampleInst with optab := defaultOptab.set 0xA (columnA.set 0x0 none) } : Config).wf = false := by decide
theorem test_wf_table_with_FF_refused :
    ({ Config.exampleInst with optab := defaultOptab.set 0xF (columnF.set 0xF (some (.inherent .tax))) } : Config).wf = false := by
  decide
theorem test_wf_other_table : ({ Config.exampleInst with optab := otherTable } : Config).wf = true := by decide
theorem test_wf_instr_every_operand : (Instr.ldaExt 0xFFFF).wf = true := by decide

/-! ### Decoding: every opcode byte of 30_encoding.md R65, written out, with operand bytes `12 34` -/

theorem test_decode_column_0 :
    decode defaultOptab [0x00, 0x12, 0x34] = .ok (.brset0 0x12 0x34, []) ∧
    decode defaultOptab [0x01, 0x12, 0x34] = .ok (.brclr0 0x12 0x34, []) ∧
    decode defaultOptab [0x02, 0x12, 0x34] = .ok (.brset1 0x12 0x34, []) ∧
    decode defaultOptab [0x03, 0x12, 0x34] = .ok (.brclr1 0x12 0x34, []) ∧
    decode defaultOptab [0x04, 0x12, 0x34] = .ok (.brset2 0x12 0x34, []) ∧
    decode defaultOptab [0x05, 0x12, 0x34] = .ok (.brclr2 0x12 0x34, []) ∧
    decode defaultOptab [0x06, 0x12, 0x34] = .ok (.brset3 0x12 0x34, []) ∧
    decode defaultOptab [0x07, 0x12, 0x34] = .ok (.brclr3 0x12 0x34, []) ∧
    decode defaultOptab [0x08, 0x12, 0x34] = .ok (.brset4 0x12 0x34, []) ∧
    decode defaultOptab [0x09, 0x12, 0x34] = .ok (.brclr4 0x12 0x34, []) ∧
    decode defaultOptab [0x0A, 0x12, 0x34] = .ok (.brset5 0x12 0x34, []) ∧
    decode defaultOptab [0x0B, 0x12, 0x34] = .ok (.brclr5 0x12 0x34, []) ∧
    decode defaultOptab [0x0C, 0x12, 0x34] = .ok (.brset6 0x12 0x34, []) ∧
    decode defaultOptab [0x0D, 0x12, 0x34] = .ok (.brclr6 0x12 0x34, []) ∧
    decode defaultOptab [0x0E, 0x12, 0x34] = .ok (.brset7 0x12 0x34, []) ∧
    decode defaultOptab [0x0F, 0x12, 0x34] = .ok (.brclr7 0x12 0x34, []) :=
  ⟨rfl, rfl, rfl, rfl, rfl, rfl, rfl, rfl, rfl, rfl, rfl, rfl, rfl, rfl, rfl, rfl⟩

theorem test_decode_column_1 :
    decode defaultOptab [0x10, 0x12] = .ok (.bset0 0x12, []) ∧
    decode defaultOptab [0x11, 0x12] = .ok (.bclr0 0x12, []) ∧
    decode defaultOptab [0x12, 0x12] = .ok (.bset1 0x12, []) ∧
    decode defaultOptab [0x13, 0x12] = .ok (.bclr1 0x12, []) ∧
    decode defaultOptab [0x14, 0x12] = .ok (.bset2 0x12, []) ∧
    decode defaultOptab [0x15, 0x12] = .ok (.bclr2 0x12, []) ∧
    decode defaultOptab [0x16, 0x12] = .ok (.bset3 0x12, []) ∧
    decode defaultOptab [0x17, 0x12] = .ok (.bclr3 0x12, []) ∧
    decode defaultOptab [0x18, 0x12] = .ok (.bset4 0x12, []) ∧
    decode defaultOptab [0x19, 0x12] = .ok (.bclr4 0x12, []) ∧
    decode defaultOptab [0x1A, 0x12] = .ok (.bset5 0x12, []) ∧
    decode defaultOptab [0x1B, 0x12] = .ok (.bclr5 0x12, []) ∧
    decode defaultOptab [0x1C, 0x12] = .ok (.bset6 0x12, []) ∧
    decode defaultOptab [0x1D, 0x12] = .ok (.bclr6 0x12, []) ∧
    decode defaultOptab [0x1E, 0x12] = .ok (.bset7 0x12, []) ∧
    decode defaultOptab [0x1F, 0x12] = .ok (.bclr7 0x12, []) :=
  ⟨rfl, rfl, rfl, rfl, rfl, rfl, rfl, rfl, rfl, rfl, rfl, rfl, rfl, rfl, rfl, rfl⟩

theorem test_decode_column_2 :
    decode defaultOptab [0x20, 0x12] = .ok (.bra 0x12, []) ∧
    decode defaultOptab [0x21, 0x12] = .ok (.brn 0x12, []) ∧
    decode defaultOptab [0x22, 0x12] = .ok (.bhi 0x12, []) ∧
    decode defaultOptab [0x23, 0x12] = .ok (.bls 0x12, []) ∧
    decode defaultOptab [0x24, 0x12] = .ok (.bcc 0x12, []) ∧
    decode defaultOptab [0x25, 0x12] = .ok (.bcs 0x12, []) ∧
    decode defaultOptab [0x26, 0x12] = .ok (.bne 0x12, []) ∧
    decode defaultOptab [0x27, 0x12] = .ok (.beq 0x12, []) ∧
    decode defaultOptab [0x28, 0x12] = .ok (.bhcc 0x12, []) ∧
    decode defaultOptab [0x29, 0x12] = .ok (.bhcs 0x12, []) ∧
    decode defaultOptab [0x2A, 0x12] = .ok (.bpl 0x12, []) ∧
    decode defaultOptab [0x2B, 0x12] = .ok (.bmi 0x12, []) ∧
    decode defaultOptab [0x2C, 0x12] = .ok (.bmc 0x12, []) ∧
    decode defaultOptab [0x2D, 0x12] = .ok (.bms 0x12, []) :=
  ⟨rfl, rfl, rfl, rfl, rfl, rfl, rfl, rfl, rfl, rfl, rfl, rfl, rfl, rfl⟩

theorem test_decode_column_3 :
    decode defaultOptab [0x30, 0x12] = .ok (.negDir 0x12, []) ∧
    decode defaultOptab [0x33, 0x12] = .ok (.comDir 0x12, []) ∧
    decode defaultOptab [0x34, 0x12] = .ok (.lsrDir 0x12, []) ∧
    decode defaultOptab [0x36, 0x12] = .ok (.rorDir 0x12, []) ∧
    decode defaultOptab [0x37, 0x12] = .ok (.asrDir 0x12, []) ∧
    decode defaultOptab [0x38, 0x12] = .ok (.lslDir 0x12, []) ∧
    decode defaultOptab [0x39, 0x12] = .ok (.rolDir 0x12, []) ∧
    decode defaultOptab [0x3A, 0x12] = .ok (.decDir 0x12, []) ∧
    decode defaultOptab [0x3C, 0x12] = .ok (.incDir 0x12, []) ∧
    decode defaultOptab [0x3D, 0x12] = .ok (.tstDir 0x12, []) ∧
    decode defaultOptab [0x3F, 0x12] = .ok (.clrDir 0x12, []) :=
  ⟨rfl, rfl, rfl, rfl, rfl, rfl, rfl, rfl, rfl, rfl, rfl⟩

theorem test_decode_column_4 :
    decode defaultOptab [0x40] = .ok (.nega, []) ∧
    decode defaultOptab [0x42] = .ok (.mul, []) ∧
    decode defaultOptab [0x43] = .ok (.coma, []) ∧
    decode defaultOptab [0x44] = .ok (.lsra, []) ∧
    decode defaultOptab [0x46] = .ok (.rora, []) ∧
    decode defaultOptab [0x47] = .ok (.asra, []) ∧
    decode defaultOptab [0x48] = .ok (.lsla, []) ∧
    decode defaultOptab [0x49] = .ok (.rola, []) ∧
    decode defaultOptab [0x4A] = .ok (.deca, []) ∧
    decode defaultOptab [0x4C] = .ok (.inca, []) ∧
    decode defaultOptab [0x4D] = .ok (.tsta, []) ∧
    decode defaultOptab [0x4F] = .ok (.clra, []) :=
  ⟨rfl, rfl, rfl, rfl, rfl, rfl, rfl, rfl, rfl, rfl, rfl, rfl⟩

theorem test_decode_column_5 :
    decode defaultOptab [0x50] = .ok (.negx, []) ∧
    decode defaultOptab [0x53] = .ok (.comx, []) ∧
    decode defaultOptab [0x54] = .ok (.lsrx, []) ∧
    decode defaultOptab [0x56] = .ok (.rorx, []) ∧
    decode defaultOptab [0x57] = .ok (.asrx, []) ∧
    decode defaultOptab [0x58] = .ok (.lslx, []) ∧
    decode defaultOptab [0x59] = .ok (.rolx, []) ∧
    decode defaultOptab [0x5A] = .ok (.decx, []) ∧
    decode defaultOptab [0x5C] = .ok (.incx, []) ∧
    decode defaultOptab [0x5D] = .ok (.tstx, []) ∧
    decode defaultOptab [0x5F] = .ok (.clrx, []) :=
  ⟨rfl, rfl, rfl, rfl, rfl, rfl, rfl, rfl, rfl, rfl, rfl⟩

theorem test_decode_column_6 :
    decode defaultOptab [0x60, 0x12] = .ok (.negIx1 0x12, []) ∧
    decode defaultOptab [0x63, 0x12] = .ok (.comIx1 0x12, []) ∧
    decode defaultOptab [0x64, 0x12] = .ok (.lsrIx1 0x12, []) ∧
    decode defaultOptab [0x66, 0x12] = .ok (.rorIx1 0x12, []) ∧
    decode defaultOptab [0x67, 0x12] = .ok (.asrIx1 0x12, []) ∧
    decode defaultOptab [0x68, 0x12] = .ok (.lslIx1 0x12, []) ∧
    decode defaultOptab [0x69, 0x12] = .ok (.rolIx1 0x12, []) ∧
    decode defaultOptab [0x6A, 0x12] = .ok (.decIx1 0x12, []) ∧
    decode defaultOptab [0x6C, 0x12] = .ok (.incIx1 0x12, []) ∧
    decode defaultOptab [0x6D, 0x12] = .ok (.tstIx1 0x12, []) ∧
    decode defaultOptab [0x6F, 0x12] = .ok (.clrIx1 0x12, []) :=
  ⟨rfl, rfl, rfl, rfl, rfl, rfl, rfl, rfl, rfl, rfl, rfl⟩

theorem test_decode_column_7 :
    decode defaultOptab [0x70] = .ok (.negIx, []) ∧
    decode defaultOptab [0x73] = .ok (.comIx, []) ∧
    decode defaultOptab [0x74] = .ok (.lsrIx, []) ∧
    decode defaultOptab [0x76] = .ok (.rorIx, []) ∧
    decode defaultOptab [0x77] = .ok (.asrIx, []) ∧
    decode defaultOptab [0x78] = .ok (.lslIx, []) ∧
    decode defaultOptab [0x79] = .ok (.rolIx, []) ∧
    decode defaultOptab [0x7A] = .ok (.decIx, []) ∧
    decode defaultOptab [0x7C] = .ok (.incIx, []) ∧
    decode defaultOptab [0x7D] = .ok (.tstIx, []) ∧
    decode defaultOptab [0x7F] = .ok (.clrIx, []) :=
  ⟨rfl, rfl, rfl, rfl, rfl, rfl, rfl, rfl, rfl, rfl, rfl⟩

theorem test_decode_column_8 :
    decode defaultOptab [0x80] = .ok (.rti, []) ∧
    decode defaultOptab [0x81] = .ok (.rts, []) ∧
    decode defaultOptab [0x83] = .ok (.swi, []) ∧
    decode defaultOptab [0x8E] = .ok (.stop, []) ∧
    decode defaultOptab [0x8F] = .ok (.wait, []) :=
  ⟨rfl, rfl, rfl, rfl, rfl⟩

theorem test_decode_column_9 :
    decode defaultOptab [0x97] = .ok (.tax, []) ∧
    decode defaultOptab [0x98] = .ok (.clc, []) ∧
    decode defaultOptab [0x99] = .ok (.sec, []) ∧
    decode defaultOptab [0x9A] = .ok (.cli, []) ∧
    decode defaultOptab [0x9B] = .ok (.sei, []) ∧
    decode defaultOptab [0x9C] = .ok (.rsp, []) ∧
    decode defaultOptab [0x9F] = .ok (.txa, []) :=
  ⟨rfl, rfl, rfl, rfl, rfl, rfl, rfl⟩

theorem test_decode_column_A :
    decode defaultOptab [0xA0, 0x12] = .ok (.subImm 0x12, []) ∧
    decode defaultOptab [0xA1, 0x12] = .ok (.cmpImm 0x12, []) ∧
    decode defaultOptab [0xA2, 0x12] = .ok (.sbcImm 0x12, []) ∧
    decode defaultOptab [0xA3, 0x12] = .ok (.cpxImm 0x12, []) ∧
    decode defaultOptab [0xA4, 0x12] = .ok (.andImm 0x12, []) ∧
    decode defaultOptab [0xA6, 0x12] = .ok (.ldaImm 0x12, []) ∧
    decode defaultOptab [0xA8, 0x12] = .ok (.eorImm 0x12, []) ∧
    decode defaultOptab [0xA9, 0x12] = .ok (.adcImm 0x12, []) ∧
    decode defaultOptab [0xAA, 0x12] = .ok (.oraImm 0x12, []) ∧
    decode defaultOptab [0xAB, 0x12] = .ok (.addImm 0x12, []) ∧
    decode defaultOptab [0xAD, 0x12] = .ok (.bsr 0x12, []) ∧
    decode defaultOptab [0xAE, 0x12] = .ok (.ldxImm 0x12, []) :=
  ⟨rfl, rfl, rfl, rfl, rfl, rfl, rfl, rfl, rfl, rfl, rfl, rfl⟩

theorem test_decode_column_B :
    decode defaultOptab [0xB0, 0x12] = .ok (.subDir 0x12, []) ∧
    decode defaultOptab [0xB1, 0x12] = .ok (.cmpDir 0x12, []) ∧
    decode defaultOptab [0xB2, 0x12] = .ok (.sbcDir 0x12, []) ∧
    decode defaultOptab [0xB3, 0x12] = .ok (.cpxDir 0x12, []) ∧
    decode defaultOptab [0xB4, 0x12] = .ok (.andDir 0x12, []) ∧
    decode defaultOptab [0xB6, 0x12] = .ok (.ldaDir 0x12, []) ∧
    decode defaultOptab [0xB7, 0x12] = .ok (.staDir 0x12, []) ∧
    decode defaultOptab [0xB8, 0x12] = .ok (.eorDir 0x12, []) ∧
    decode defaultOptab [0xB9, 0x12] = .ok (.adcDir 0x12, []) ∧
    decode defaultOptab [0xBA, 0x12] = .ok (.oraDir 0x12, []) ∧
    decode defaultOptab [0xBB, 0x12] = .ok (.addDir 0x12, []) ∧
    decode defaultOptab [0xBC, 0x12] = .ok (.jmpDir 0x12, []) ∧
    decode defaultOptab [0xBD, 0x12] = .ok (.jsrDir 0x12, []) ∧
    decode defaultOptab [0xBE, 0x12] = .ok (.ldxDir 0x12, []) ∧
    decode defaultOptab [0xBF, 0x12] = .ok (.stxDir 0x12, []) :=
  ⟨rfl, rfl, rfl, rfl, rfl, rfl, rfl, rfl, rfl, rfl, rfl, rfl, rfl, rfl, rfl⟩

theorem test_decode_column_C :
    decode defaultOptab [0xC0, 0x12, 0x34] = .ok (.subExt 0x1234, []) ∧
    decode defaultOptab [0xC1, 0x12, 0x34] = .ok (.cmpExt 0x1234, []) ∧
    decode defaultOptab [0xC2, 0x12, 0x34] = .ok (.sbcExt 0x1234, []) ∧
    decode defaultOptab [0xC3, 0x12, 0x34] = .ok (.cpxExt 0x1234, []) ∧
    decode defaultOptab [0xC4, 0x12, 0x34] = .ok (.andExt 0x1234, []) ∧
    decode defaultOptab [0xC6, 0x12, 0x34] = .ok (.ldaExt 0x1234, []) ∧
    decode defaultOptab [0xC7, 0x12, 0x34] = .ok (.staExt 0x1234, []) ∧
    decode defaultOptab [0xC8, 0x12, 0x34] = .ok (.eorExt 0x1234, []) ∧
    decode defaultOptab [0xC9, 0x12, 0x34] = .ok (.adcExt 0x1234, []) ∧
    decode defaultOptab [0xCA, 0x12, 0x34] = .ok (.oraExt 0x1234, []) ∧
    decode defaultOptab [0xCB, 0x12, 0x34] = .ok (.addExt 0x1234, []) ∧
    decode defaultOptab [0xCC, 0x12, 0x34] = .ok (.jmpExt 0x1234, []) ∧
    decode defaultOptab [0xCD, 0x12, 0x34] = .ok (.jsrExt 0x1234, []) ∧
    decode defaultOptab [0xCE, 0x12, 0x34] = .ok (.ldxExt 0x1234, []) ∧
    decode defaultOptab [0xCF, 0x12, 0x34] = .ok (.stxExt 0x1234, []) :=
  ⟨rfl, rfl, rfl, rfl, rfl, rfl, rfl, rfl, rfl, rfl, rfl, rfl, rfl, rfl, rfl⟩

theorem test_decode_column_D :
    decode defaultOptab [0xD0, 0x12, 0x34] = .ok (.subIx2 0x1234, []) ∧
    decode defaultOptab [0xD1, 0x12, 0x34] = .ok (.cmpIx2 0x1234, []) ∧
    decode defaultOptab [0xD2, 0x12, 0x34] = .ok (.sbcIx2 0x1234, []) ∧
    decode defaultOptab [0xD3, 0x12, 0x34] = .ok (.cpxIx2 0x1234, []) ∧
    decode defaultOptab [0xD4, 0x12, 0x34] = .ok (.andIx2 0x1234, []) ∧
    decode defaultOptab [0xD6, 0x12, 0x34] = .ok (.ldaIx2 0x1234, []) ∧
    decode defaultOptab [0xD7, 0x12, 0x34] = .ok (.staIx2 0x1234, []) ∧
    decode defaultOptab [0xD8, 0x12, 0x34] = .ok (.eorIx2 0x1234, []) ∧
    decode defaultOptab [0xD9, 0x12, 0x34] = .ok (.adcIx2 0x1234, []) ∧
    decode defaultOptab [0xDA, 0x12, 0x34] = .ok (.oraIx2 0x1234, []) ∧
    decode defaultOptab [0xDB, 0x12, 0x34] = .ok (.addIx2 0x1234, []) ∧
    decode defaultOptab [0xDC, 0x12, 0x34] = .ok (.jmpIx2 0x1234, []) ∧
    decode defaultOptab [0xDD, 0x12, 0x34] = .ok (.jsrIx2 0x1234, []) ∧
    decode defaultOptab [0xDE, 0x12, 0x34] = .ok (.ldxIx2 0x1234, []) ∧
    decode defaultOptab [0xDF, 0x12, 0x34] = .ok (.stxIx2 0x1234, []) :=
  ⟨rfl, rfl, rfl, rfl, rfl, rfl, rfl, rfl, rfl, rfl, rfl, rfl, rfl, rfl, rfl⟩

theorem test_decode_column_E :
    decode defaultOptab [0xE0, 0x12] = .ok (.subIx1 0x12, []) ∧
    decode defaultOptab [0xE1, 0x12] = .ok (.cmpIx1 0x12, []) ∧
    decode defaultOptab [0xE2, 0x12] = .ok (.sbcIx1 0x12, []) ∧
    decode defaultOptab [0xE3, 0x12] = .ok (.cpxIx1 0x12, []) ∧
    decode defaultOptab [0xE4, 0x12] = .ok (.andIx1 0x12, []) ∧
    decode defaultOptab [0xE6, 0x12] = .ok (.ldaIx1 0x12, []) ∧
    decode defaultOptab [0xE7, 0x12] = .ok (.staIx1 0x12, []) ∧
    decode defaultOptab [0xE8, 0x12] = .ok (.eorIx1 0x12, []) ∧
    decode defaultOptab [0xE9, 0x12] = .ok (.adcIx1 0x12, []) ∧
    decode defaultOptab [0xEA, 0x12] = .ok (.oraIx1 0x12, []) ∧
    decode defaultOptab [0xEB, 0x12] = .ok (.addIx1 0x12, []) ∧
    decode defaultOptab [0xEC, 0x12] = .ok (.jmpIx1 0x12, []) ∧
    decode defaultOptab [0xED, 0x12] = .ok (.jsrIx1 0x12, []) ∧
    decode defaultOptab [0xEE, 0x12] = .ok (.ldxIx1 0x12, []) ∧
    decode defaultOptab [0xEF, 0x12] = .ok (.stxIx1 0x12, []) :=
  ⟨rfl, rfl, rfl, rfl, rfl, rfl, rfl, rfl, rfl, rfl, rfl, rfl, rfl, rfl, rfl⟩

theorem test_decode_column_F :
    decode defaultOptab [0xF0] = .ok (.subIx, []) ∧
    decode defaultOptab [0xF1] = .ok (.cmpIx, []) ∧
    decode defaultOptab [0xF2] = .ok (.sbcIx, []) ∧
    decode defaultOptab [0xF3] = .ok (.cpxIx, []) ∧
    decode defaultOptab [0xF4] = .ok (.andIx, []) ∧
    decode defaultOptab [0xF6] = .ok (.ldaIx, []) ∧
    decode defaultOptab [0xF7] = .ok (.staIx, []) ∧
    decode defaultOptab [0xF8] = .ok (.eorIx, []) ∧
    decode defaultOptab [0xF9] = .ok (.adcIx, []) ∧
    decode defaultOptab [0xFA] = .ok (.oraIx, []) ∧
    decode defaultOptab [0xFB] = .ok (.addIx, []) ∧
    decode defaultOptab [0xFC] = .ok (.jmpIx, []) ∧
    decode defaultOptab [0xFD] = .ok (.jsrIx, []) ∧
    decode defaultOptab [0xFE] = .ok (.ldxIx, []) :=
  ⟨rfl, rfl, rfl, rfl, rfl, rfl, rfl, rfl, rfl, rfl, rfl, rfl, rfl, rfl⟩

theorem test_decode_illegal_refused : decode defaultOptab [0xFF] = .error (.unknownOpcode 0xFF) ∧ decode defaultOptab [0x9D] = .error (.unknownOpcode 0x9D) := by
  decide
theorem test_decode_truncated_refused : decode defaultOptab [0xC6, 0x12] = .error (.truncated 0xC6) ∧ decode defaultOptab [] = .error .noBytes := by decide
theorem test_decode_leaves_rest : decode defaultOptab [0xA0, 0x05, 0x81, 0x80] = .ok (.subImm 0x05, [0x81, 0x80]) := by decide
theorem test_table_word : decodeTableWord 24 0x3412C6 = some (.ldaExt 0x1234) ∧ decodeTableWord 8 0xA0 = some (.subImm 0) := by decide
theorem test_table_word_runs : seen (step (State.reset.withFetchWord 16 0x05A6)) [] [] = some [0x05, 0, 0x0002, 0xFF, 0xE0] := by decide

/-! ### Steps (95_test_vectors.md section 2): `a`, `x`, `pc`, `sp`, `CCR`, then the memory bytes and ring cells named -/

theorem test_add_imm_half_carry_and_sign_T1 :
    seen (step ({ startAt 0x0100 0xE0 [0xAB, 0x46] with a := 0x3A } : State)) [] [] =
      some [0x80, 0x0, 0x102, 0xFF, 0xF4] := by
  decide
theorem test_add_wraps_to_zero_T2 :
    seen (step ({ startAt 0x0100 0xE0 [0xAB, 0x01] with a := 0xFF } : State)) [] [] =
      some [0x0, 0x0, 0x102, 0xFF, 0xF3] := by
  decide
theorem test_adc_with_carry_in_T6 :
    seen (step ({ startAt 0x0100 0xE1 [0xA9, 0x34] with a := 0x12 } : State)) [] [] =
      some [0x47, 0x0, 0x102, 0xFF, 0xE0] := by
  decide
theorem test_adc_carry_in_makes_the_carry_T9 :
    seen (step ({ startAt 0x0100 0xE1 [0xA9, 0x00] with a := 0xFF } : State)) [] [] =
      some [0x0, 0x0, 0x102, 0xFF, 0xF3] := by
  decide
theorem test_sub_imm_T10 :
    seen (step ({ startAt 0x0000 0xE0 [0xA0, 0x05] with a := 0x03 } : State)) [] [] =
      some [0xFE, 0x0, 0x2, 0xFF, 0xE5] := by
  decide
theorem test_sub_leaves_h_T12 :
    seen (step ({ startAt 0x0100 0xF0 [0xA0, 0x01] with a := 0x80 } : State)) [] [] =
      some [0x7F, 0x0, 0x102, 0xFF, 0xF0] := by
  decide
theorem test_sub_ext_T13 :
    seen (step ((({ startAt 0x0100 0xE0 [0xC0, 0x12, 0x34] with a := 0x10 }) : State).memWrite 0x1234 0x01)) [] [] =
      some [0xF, 0x0, 0x103, 0xFF, 0xE0] := by
  decide
theorem test_sbc_with_borrow_in_T14 :
    seen (step ({ startAt 0x0100 0xE1 [0xA2, 0x20] with a := 0x50 } : State)) [] [] =
      some [0x2F, 0x0, 0x102, 0xFF, 0xE0] := by
  decide
theorem test_sbc_equal_borrow_in_T17 :
    seen (step ({ startAt 0x0100 0xE1 [0xA2, 0x05] with a := 0x05 } : State)) [] [] =
      some [0xFF, 0x0, 0x102, 0xFF, 0xE5] := by
  decide
theorem test_mul_low_byte_no_flags_T18 :
    seen (step ({ startAt 0x0100 0xF7 [0x42] with a := 0x0C, x := 0x0B } : State)) [] [] =
      some [0x84, 0xB, 0x101, 0xFF, 0xF7] := by
  decide
theorem test_mul_0xff_0xff_T20 :
    seen (step ({ startAt 0x0100 0xE0 [0x42] with a := 0xFF, x := 0xFF } : State)) [] [] =
      some [0x1, 0xFF, 0x101, 0xFF, 0xE0] := by
  decide
theorem test_and_imm_T21 :
    seen (step ({ startAt 0x0100 0xF1 [0xA4, 0x3C] with a := 0xF0 } : State)) [] [] =
      some [0x30, 0x0, 0x102, 0xFF, 0xF1] := by
  decide
theorem test_ora_imm_T23 :
    seen (step ({ startAt 0x0100 0xE0 [0xAA, 0x80] with a := 0x0F } : State)) [] [] =
      some [0x8F, 0x0, 0x102, 0xFF, 0xE4] := by
  decide
theorem test_eor_ix_T26 :
    seen (step ((({ startAt 0x0100 0xE0 [0xF8] with a := 0x3C, x := 0x40 }) : State).memWrite 0x0040 0x3C)) [] [] =
      some [0x0, 0x40, 0x101, 0xFF, 0xE2] := by
  decide
theorem test_coma_T27 :
    seen (step ({ startAt 0x0100 0xE0 [0x43] with a := 0x5A } : State)) [] [] =
      some [0xA5, 0x0, 0x101, 0xFF, 0xE5] := by
  decide
theorem test_comx_T29 :
    seen (step ({ startAt 0x0100 0xE0 [0x53] with x := 0x0F } : State)) [] [] =
      some [0x0, 0xF0, 0x101, 0xFF, 0xE5] := by
  decide
theorem test_com_ix1_T31 :
    seen (step ((({ startAt 0x0100 0xE0 [0x63, 0x10] with x := 0x70 }) : State).memWrite 0x0080 0xF0)) [0x0080] [] =
      some [0x0, 0x70, 0x102, 0xFF, 0xE1, 0xF] := by
  decide
theorem test_nega_T32 :
    seen (step ({ startAt 0x0100 0xE0 [0x40] with a := 0x05 } : State)) [] [] =
      some [0xFB, 0x0, 0x101, 0xFF, 0xE5] := by
  decide
theorem test_nega_0_T33 : seen (step (startAt 0x0100 0xE1 [0x40])) [] [] = some [0x0, 0x0, 0x101, 0xFF, 0xE2] := by decide
theorem test_negx_T35 :
    seen (step ({ startAt 0x0100 0xE0 [0x50] with x := 0xFF } : State)) [] [] =
      some [0x0, 0x1, 0x101, 0xFF, 0xE1] := by
  decide
theorem test_neg_ix_T37 :
    seen (step ((({ startAt 0x0100 0xE0 [0x70] with x := 0x20 }) : State).memWrite 0x0020 0x01)) [0x0020] [] =
      some [0x0, 0x20, 0x101, 0xFF, 0xE5, 0xFF] := by
  decide
theorem test_lsla_T38 :
    seen (step ({ startAt 0x0100 0xE0 [0x48] with a := 0x81 } : State)) [] [] =
      some [0x2, 0x0, 0x101, 0xFF, 0xE1] := by
  decide
theorem test_lslx_T40 :
    seen (step ({ startAt 0x0100 0xE0 [0x58] with x := 0x55 } : State)) [] [] =
      some [0x0, 0xAA, 0x101, 0xFF, 0xE4] := by
  decide
theorem test_lsl_dir_T41 :
    seen (step ((startAt 0x0100 0xE0 [0x38, 0x80]).memWrite 0x0080 0xC0)) [0x0080] [] =
      some [0x0, 0x0, 0x102, 0xFF, 0xE5, 0x80] := by
  decide
theorem test_lsra_T42 :
    seen (step ({ startAt 0x0100 0xE0 [0x44] with a := 0x81 } : State)) [] [] =
      some [0x40, 0x0, 0x101, 0xFF, 0xE1] := by
  decide
theorem test_lsrx_T44 :
    seen (step ({ startAt 0x0100 0xE0 [0x54] with x := 0xFE } : State)) [] [] =
      some [0x0, 0x7F, 0x101, 0xFF, 0xE0] := by
  decide
theorem test_lsr_dir_T45 :
    seen (step ((startAt 0x0100 0xE0 [0x34, 0x80]).memWrite 0x0080 0x03)) [0x0080] [] =
      some [0x0, 0x0, 0x102, 0xFF, 0xE1, 0x1] := by
  decide
theorem test_asra_keeps_sign_T46 :
    seen (step ({ startAt 0x0100 0xE0 [0x47] with a := 0x81 } : State)) [] [] =
      some [0xC0, 0x0, 0x101, 0xFF, 0xE5] := by
  decide
theorem test_asrx_T48 :
    seen (step ({ startAt 0x0100 0xE0 [0x57] with x := 0x7E } : State)) [] [] =
      some [0x0, 0x3F, 0x101, 0xFF, 0xE0] := by
  decide
theorem test_asr_dir_T49 :
    seen (step ((startAt 0x0100 0xE0 [0x37, 0x80]).memWrite 0x0080 0x82)) [0x0080] [] =
      some [0x0, 0x0, 0x102, 0xFF, 0xE4, 0xC1] := by
  decide
theorem test_rola_bit_7_re_enters_at_bit_0_T50 :
    seen (step ({ startAt 0x0100 0xE0 [0x49] with a := 0x81 } : State)) [] [] =
      some [0x3, 0x0, 0x101, 0xFF, 0xE1] := by
  decide
theorem test_rola_ignores_old_c_T51 : seen (step (startAt 0x0100 0xE1 [0x49])) [] [] = some [0x0, 0x0, 0x101, 0xFF, 0xE2] := by decide
theorem test_rolx_T53 :
    seen (step ({ startAt 0x0100 0xE0 [0x59] with x := 0x40 } : State)) [] [] =
      some [0x0, 0x80, 0x101, 0xFF, 0xE4] := by
  decide
theorem test_rol_dir_T54 :
    seen (step ((startAt 0x0100 0xE0 [0x39, 0x80]).memWrite 0x0080 0xC3)) [0x0080] [] =
      some [0x0, 0x0, 0x102, 0xFF, 0xE5, 0x87] := by
  decide
theorem test_rora_bit_0_re_enters_at_bit_7_T56 :
    seen (step ({ startAt 0x0100 0xE0 [0x46] with a := 0x01 } : State)) [] [] =
      some [0x80, 0x0, 0x101, 0xFF, 0xE5] := by
  decide
theorem test_rora_ignores_old_c_T57 : seen (step (startAt 0x0100 0xE1 [0x46])) [] [] = some [0x0, 0x0, 0x101, 0xFF, 0xE2] := by decide
theorem test_rorx_T58 :
    seen (step ({ startAt 0x0100 0xE0 [0x56] with x := 0x81 } : State)) [] [] =
      some [0x0, 0xC0, 0x101, 0xFF, 0xE5] := by
  decide
theorem test_ror_dir_T59 :
    seen (step ((startAt 0x0100 0xE0 [0x36, 0x80]).memWrite 0x0080 0x03)) [0x0080] [] =
      some [0x0, 0x0, 0x102, 0xFF, 0xE5, 0x81] := by
  decide
theorem test_lda_imm_zero_T61 :
    seen (step ({ startAt 0x0100 0xE0 [0xA6, 0x00] with a := 0x55 } : State)) [] [] =
      some [0x0, 0x0, 0x102, 0xFF, 0xE2] := by
  decide
theorem test_lda_ix2_with_address_wrap_T63 :
    seen (step ((({ startAt 0x0100 0xE0 [0xD6, 0xFF, 0xF8] with x := 0x10 }) : State).memWrite 0x0008 0x5A)) [] [] =
      some [0x5A, 0x10, 0x103, 0xFF, 0xE0] := by
  decide
theorem test_lda_ix1_unsigned_offset_T64 :
    seen (step ((({ startAt 0x0100 0xE0 [0xE6, 0xFF] with x := 0xFF }) : State).memWrite 0x01FE 0x77)) [] [] =
      some [0x77, 0xFF, 0x102, 0xFF, 0xE0] := by
  decide
theorem test_sta_dir_sets_n_z_T65 :
    seen (step (startAt 0x0100 0xE0 [0xB7, 0x80])) [0x0080] [] =
      some [0x0, 0x0, 0x102, 0xFF, 0xE2, 0x0] := by
  decide
theorem test_sta_into_the_stack_window_does_not_T66 :
    seen (step ({ startAt 0x0100 0xE0 [0xB7, 0xFE] with a := 0x99 } : State)) [0x00FE] [] =
      some [0x99, 0x0, 0x102, 0xFF, 0xE4, 0x99] := by
  decide
theorem test_ldx_imm_T67 : seen (step (startAt 0x0100 0xE0 [0xAE, 0x05])) [] [] = some [0x0, 0x5, 0x102, 0xFF, 0xE0] := by decide
theorem test_ldx_ix_uses_old_x_T68 :
    seen (step ((({ startAt 0x0100 0xE0 [0xFE] with x := 0x10 }) : State).memWrite 0x0010 0x33)) [] [] =
      some [0x0, 0x33, 0x101, 0xFF, 0xE0] := by
  decide
theorem test_stx_dir_T69 :
    seen (step ({ startAt 0x0100 0xE0 [0xBF, 0x40] with x := 0x85 } : State)) [0x0040] [] =
      some [0x0, 0x85, 0x102, 0xFF, 0xE4, 0x85] := by
  decide
theorem test_tax_T71 :
    seen (step ({ startAt 0x0100 0xE0 [0x97] with x := 0x7F } : State)) [] [] =
      some [0x0, 0x0, 0x101, 0xFF, 0xE2] := by
  decide
theorem test_txa_T72 :
    seen (step ({ startAt 0x0100 0xE0 [0x9F] with a := 0x01, x := 0xC0 } : State)) [] [] =
      some [0xC0, 0xC0, 0x101, 0xFF, 0xE4] := by
  decide
theorem test_clra_T73 :
    seen (step ({ startAt 0x0100 0xE5 [0x4F] with a := 0xFF } : State)) [] [] =
      some [0x0, 0x0, 0x101, 0xFF, 0xE3] := by
  decide
theorem test_clrx_T74 :
    seen (step ({ startAt 0x0100 0xE0 [0x5F] with x := 0x80 } : State)) [] [] =
      some [0x0, 0x0, 0x101, 0xFF, 0xE2] := by
  decide
theorem test_clr_dir_T75 :
    seen (step ((startAt 0x0100 0xE0 [0x3F, 0x80]).memWrite 0x0080 0x5A)) [0x0080] [] =
      some [0x0, 0x0, 0x102, 0xFF, 0xE2, 0x0] := by
  decide
theorem test_inca_T77 :
    seen (step ({ startAt 0x0100 0xE0 [0x4C] with a := 0x41 } : State)) [] [] =
      some [0x42, 0x0, 0x101, 0xFF, 0xE0] := by
  decide
theorem test_inca_0x0f_leaves_h_T79 :
    seen (step ({ startAt 0x0100 0xE0 [0x4C] with a := 0x0F } : State)) [] [] =
      some [0x10, 0x0, 0x101, 0xFF, 0xE0] := by
  decide
theorem test_incx_T80 :
    seen (step ({ startAt 0x0100 0xE0 [0x5C] with x := 0xFF } : State)) [] [] =
      some [0x0, 0x0, 0x101, 0xFF, 0xE2] := by
  decide
theorem test_inc_dir_T81 :
    seen (step ((startAt 0x0100 0xE0 [0x3C, 0x80]).memWrite 0x0080 0x7F)) [0x0080] [] =
      some [0x0, 0x0, 0x102, 0xFF, 0xE4, 0x80] := by
  decide
theorem test_deca_wraps_c_untouched_T84 :
    seen (step (startAt 0x0100 0xE0 [0x4A])) [] [] =
      some [0xFF, 0x0, 0x101, 0xFF, 0xE4] := by
  decide
theorem test_decx_to_zero_T85 :
    seen (step ({ startAt 0x0100 0xE0 [0x5A] with x := 0x01 } : State)) [] [] =
      some [0x0, 0x0, 0x101, 0xFF, 0xE2] := by
  decide
theorem test_dec_dir_T86 :
    seen (step ((startAt 0x0100 0xE0 [0x3A, 0x80]).memWrite 0x0080 0x00)) [0x0080] [] =
      some [0x0, 0x0, 0x102, 0xFF, 0xE4, 0xFF] := by
  decide
theorem test_cmp_imm_c_not_written_T87 :
    seen (step ({ startAt 0x0100 0xE0 [0xA1, 0x20] with a := 0x10 } : State)) [] [] =
      some [0x10, 0x0, 0x102, 0xFF, 0xE4] := by
  decide
theorem test_cmp_equal_c_kept_T88 :
    seen (step ({ startAt 0x0100 0xE1 [0xA1, 0x10] with a := 0x10 } : State)) [] [] =
      some [0x10, 0x0, 0x102, 0xFF, 0xE3] := by
  decide
theorem test_cpx_imm_equal_T90 :
    seen (step ({ startAt 0x0100 0xE0 [0xA3, 0x05] with x := 0x05 } : State)) [] [] =
      some [0x0, 0x5, 0x102, 0xFF, 0xE2] := by
  decide
theorem test_cpx_ix_compares_x_with_mem_x_T91 :
    seen (step ((({ startAt 0x0100 0xE0 [0xF3] with x := 0x30 }) : State).memWrite 0x0030 0x31)) [] [] =
      some [0x0, 0x30, 0x101, 0xFF, 0xE4] := by
  decide
theorem test_tsta_T92 :
    seen (step ({ startAt 0x0100 0xE1 [0x4D] with a := 0x80 } : State)) [] [] =
      some [0x80, 0x0, 0x101, 0xFF, 0xE5] := by
  decide
theorem test_tstx_T93 : seen (step (startAt 0x0100 0xE0 [0x5D])) [] [] = some [0x0, 0x0, 0x101, 0xFF, 0xE2] := by decide
theorem test_tst_never_written_cell_T95 :
    seen (step (startAt 0x0100 0xE0 [0x3D, 0x90])) [] [] =
      some [0x0, 0x0, 0x102, 0xFF, 0xE4] := by
  decide
theorem test_bset_3_T96 :
    seen (step ((startAt 0x0100 0xE5 [0x16, 0x80]).memWrite 0x0080 0x01)) [0x0080] [] =
      some [0x0, 0x0, 0x102, 0xFF, 0xE5, 0x9] := by
  decide
theorem test_bclr_7_T98 :
    seen (step ((startAt 0x0100 0xE0 [0x1F, 0x80]).memWrite 0x0080 0xFF)) [0x0080] [] =
      some [0x0, 0x0, 0x102, 0xFF, 0xE0, 0x7F] := by
  decide
theorem test_brset_2_taken_T99 :
    seen (step ((startAt 0x0100 0xE0 [0x04, 0x80, 0x10]).memWrite 0x0080 0x04)) [] [] =
      some [0x0, 0x0, 0x113, 0xFF, 0xE0] := by
  decide
theorem test_brset_2_not_taken_T100 :
    seen (step ((startAt 0x0100 0xE0 [0x04, 0x80, 0x10]).memWrite 0x0080 0x00)) [] [] =
      some [0x0, 0x0, 0x103, 0xFF, 0xE0] := by
  decide
theorem test_brset_7_to_itself_T101 :
    seen (step ((startAt 0x0100 0xE0 [0x0E, 0x80, 0xFD]).memWrite 0x0080 0x80)) [] [] =
      some [0x0, 0x0, 0x100, 0xFF, 0xE0] := by
  decide
theorem test_brclr_0_taken_backwards_T102 :
    seen (step ((startAt 0x0100 0xE0 [0x01, 0x80, 0xFB]).memWrite 0x0080 0xFE)) [] [] =
      some [0x0, 0x0, 0xFE, 0xFF, 0xE0] := by
  decide
theorem test_bra_5_T104 : seen (step (startAt 0x01FE 0xE0 [0x20, 0x05])) [] [] = some [0x0, 0x0, 0x205, 0xFF, 0xE0] := by decide
theorem test_bra_128_T106 : seen (step (startAt 0x0100 0xE0 [0x20, 0x80])) [] [] = some [0x0, 0x0, 0x82, 0xFF, 0xE0] := by decide
theorem test_bra_across_0xffff_T107 :
    seen (step (startAt 0xFFFE 0xE0 [0x20, 0x10])) [] [] =
      some [0x0, 0x0, 0x10, 0xFF, 0xE0] := by
  decide
theorem test_brn_T108 : seen (step (startAt 0x0100 0xE0 [0x21, 0x7F])) [] [] = some [0x0, 0x0, 0x102, 0xFF, 0xE0] := by decide
theorem test_bhi_taken_T109 : seen (step (startAt 0x0100 0xE0 [0x22, 0x04])) [] [] = some [0x0, 0x0, 0x106, 0xFF, 0xE0] := by decide
theorem test_bhi_not_taken_T110 : seen (step (startAt 0x0100 0xE2 [0x22, 0x04])) [] [] = some [0x0, 0x0, 0x102, 0xFF, 0xE2] := by decide
theorem test_bls_taken_T112 : seen (step (startAt 0x0100 0xE1 [0x23, 0x04])) [] [] = some [0x0, 0x0, 0x106, 0xFF, 0xE1] := by decide
theorem test_bls_not_taken_T113 : seen (step (startAt 0x0100 0xE0 [0x23, 0x04])) [] [] = some [0x0, 0x0, 0x102, 0xFF, 0xE0] := by decide
theorem test_bcc_not_taken_T115 : seen (step (startAt 0x0100 0xE1 [0x24, 0xFE])) [] [] = some [0x0, 0x0, 0x102, 0xFF, 0xE1] := by decide
theorem test_bcs_taken_T116 : seen (step (startAt 0x0002 0xE1 [0x25, 0x10])) [] [] = some [0x0, 0x0, 0x14, 0xFF, 0xE1] := by decide
theorem test_bne_taken_backwards_T117 :
    seen (step (startAt 0x0009 0xE0 [0x26, 0xF9])) [] [] =
      some [0x0, 0x0, 0x4, 0xFF, 0xE0] := by
  decide
theorem test_beq_taken_T119 : seen (step (startAt 0x0100 0xE2 [0x27, 0x02])) [] [] = some [0x0, 0x0, 0x104, 0xFF, 0xE2] := by decide
theorem test_bhcc_taken_after_reset_T120 :
    seen (step (startAt 0x0000 0xE0 [0x28, 0x03])) [] [] =
      some [0x0, 0x0, 0x5, 0xFF, 0xE0] := by
  decide
theorem test_bhcs_taken_T121 : seen (step (startAt 0x0002 0xF0 [0x29, 0x02])) [] [] = some [0x0, 0x0, 0x6, 0xFF, 0xF0] := by decide
theorem test_bpl_taken_128_T122 : seen (step (startAt 0x0100 0xE0 [0x2A, 0x80])) [] [] = some [0x0, 0x0, 0x82, 0xFF, 0xE0] := by decide
theorem test_bmi_taken_127_T123 : seen (step (startAt 0x0100 0xE4 [0x2B, 0x7F])) [] [] = some [0x0, 0x0, 0x181, 0xFF, 0xE4] := by decide
theorem test_bmc_taken_after_reset_T124 :
    seen (step (startAt 0x0000 0xE0 [0x2C, 0x02])) [] [] =
      some [0x0, 0x0, 0x4, 0xFF, 0xE0] := by
  decide
theorem test_bms_taken_T125 : seen (step (startAt 0x0001 0xE8 [0x2D, 0x02])) [] [] = some [0x0, 0x0, 0x5, 0xFF, 0xE8] := by decide
theorem test_bsr_T127 :
    seen (step (startAt 0x0100 0xE0 [0xAD, 0x10])) [] [0x00FD, 0x00FE] =
      some [0x0, 0x0, 0x112, 0xFD, 0xE0, 0x1, 0x2] := by
  decide
theorem test_jsr_dir_T129 :
    seen (step (startAt 0x0100 0xE0 [0xBD, 0x40])) [] [0x00FD, 0x00FE] =
      some [0x0, 0x0, 0x40, 0xFD, 0xE0, 0x1, 0x2] := by
  decide
theorem test_jsr_with_sp_at_bottom_wraps_the_ri_T131 :
    seen (step ({ startAt 0x0100 0xE0 [0xCD, 0x03, 0x00] with sp := 0x00C0 } : State)) [] [0x00FE, 0x00FF] =
      some [0x0, 0x0, 0x300, 0xFE, 0xE0, 0x1, 0x3] := by
  decide
theorem test_rts_T132 :
    seen (step (((({ startAt 0x0100 0xE0 [0x81] with sp := 0x00FD }) : State).ringWrite 0x00FD 0x12).ringWrite 0x00FE 0x34)) [] [] =
      some [0x0, 0x0, 0x1234, 0xFF, 0xE0] := by
  decide
theorem test_swi_T134 :
    seen (step (((({ startAt 0x0010 0xE1 [0x83] with a := 0x11, x := 0x22 }) : State).memWrite 0xFFFC 0x02).memWrite 0xFFFD 0x00)) [] [0x00FA, 0x00FB, 0x00FC, 0x00FD, 0x00FE] =
      some [0x11, 0x22, 0x200, 0xFA, 0xE9, 0xE1, 0x11, 0x22, 0x0, 0x11] := by
  decide
theorem test_rti_T136 :
    seen (step ((((((({ startAt 0x0100 0xE8 [0x80] with sp := 0x00FA }) : State).ringWrite 0x00FA 0x13).ringWrite 0x00FB 0x44).ringWrite 0x00FC 0x55).ringWrite 0x00FD 0x01).ringWrite 0x00FE 0x23)) [] [] =
      some [0x44, 0x55, 0x123, 0xFF, 0xF3] := by
  decide
theorem test_rti_discards_bits_7_5_of_the_poppe_T137 :
    seen (step ((((((({ startAt 0x0100 0xE0 [0x80] with sp := 0x00FA }) : State).ringWrite 0x00FA 0x00).ringWrite 0x00FB 0x00).ringWrite 0x00FC 0x00).ringWrite 0x00FD 0x00).ringWrite 0x00FE 0x00)) [] [] =
      some [0x0, 0x0, 0x0, 0xFF, 0xE0] := by
  decide
theorem test_jmp_ix1_T139 :
    seen (step ({ startAt 0x0100 0xE0 [0xEC, 0x04] with x := 0xFE } : State)) [] [] =
      some [0x0, 0xFE, 0x102, 0xFF, 0xE0] := by
  decide
theorem test_clc_T140 : seen (step (startAt 0x0100 0xFF [0x98])) [] [] = some [0x0, 0x0, 0x101, 0xFF, 0xFE] := by decide
theorem test_sec_T141 : seen (step (startAt 0x0100 0xE0 [0x99])) [] [] = some [0x0, 0x0, 0x101, 0xFF, 0xE1] := by decide
theorem test_cli_T142 : seen (step (startAt 0x0100 0xFF [0x9A])) [] [] = some [0x0, 0x0, 0x101, 0xFF, 0xF7] := by decide
theorem test_sei_T143 : seen (step (startAt 0x0100 0xE0 [0x9B])) [] [] = some [0x0, 0x0, 0x101, 0xFF, 0xE8] := by decide
theorem test_rsp_T144 :
    seen (step ({ startAt 0x0100 0xE0 [0x9C] with sp := 0x00C7 } : State)) [] [] =
      some [0x0, 0x0, 0x101, 0xFF, 0xE0] := by
  decide
theorem test_wait_T145 : seen (step (startAt 0x0100 0xE8 [0x8F])) [] [] = some [0x0, 0x0, 0x101, 0xFF, 0xE8] := by decide
theorem test_stop_T146 : seen (step (startAt 0x0100 0xE8 [0x8E])) [] [] = some [0x0, 0x0, 0x101, 0xFF, 0xE8] := by decide
theorem test_instruction_straddling_0xffff_lda_T152 :
    seen (step ((startAt 0xFFFF 0xE0 [0xC6, 0x00, 0x80]).memWrite 0x0080 0x21)) [] [] =
      some [0x21, 0x0, 0x2, 0xFF, 0xE0] := by
  decide

theorem test_unknown_opcode_T147 : latched (step { startAt 0x0100 0xE0 [0xFF] with a := 0x12 }) = some (0x0100, 0xFF) := by decide
theorem test_unknown_opcode_frame_T150 : seen (step (startAt 0x0100 0xE0 [0xA7, 0x00])) [] [] = some [0, 0, 0x0100, 0xFF, 0xE0] := by decide

/-! ### The switches at the values the spec does not decide (43_complement_negate.md R124, 44_shift_rotate.md R131,
46_incdec_compare_test.md R171; worked by hand) -/

/-- The reset state with the three switches at their other values. -/
def otherSwitches : State :=
  { State.reset with cfg := { Config.exampleInst with negCarryRule := .additive, rotateThroughCarry := true, cmpUpdatesC := true } }

theorem test_neg_additive_carry : seen (exec .nega { otherSwitches with a := 5, flagC := true }) [] [] =
    some [0xFB, 0, 1, 0xFF, 0xE4] := by decide
theorem test_rol_through_carry : seen (exec .rola { otherSwitches with a := 0x80, flagC := true }) [] [] =
    some [0x01, 0, 1, 0xFF, 0xE1] := by decide
theorem test_ror_through_carry : seen (exec .rora { otherSwitches with a := 0x01, flagC := false }) [] [] =
    some [0x00, 0, 1, 0xFF, 0xE3] := by decide
theorem test_cmp_updates_carry : seen (exec (.cmpImm 0x20) { otherSwitches with a := 0x10 }) [] [] =
    some [0x10, 0, 2, 0xFF, 0xE5] := by decide

/-! ### The ring (95_test_vectors.md, K vectors) and reset -/

theorem test_push_at_top_K1 : (push 0xAB State.reset).sp = 0x00FE ∧ (push 0xAB State.reset).ringRead 0x00FE = 0xAB := by decide
theorem test_pop_restores_K2 : (pop (push 0xAB State.reset)).1 = 0xAB ∧ (pop (push 0xAB State.reset)).2.sp = 0x00FF := by decide
theorem test_push_at_bottom_wraps_K3 : (push 0xCD { State.reset with sp := 0x00C0 }).sp = 0x00FF ∧
    (push 0xCD { State.reset with sp := 0x00C0 }).ringRead 0x00FF = 0xCD := by decide
theorem test_pop_at_top_wraps_K4 : (pop (State.reset.ringWrite 0x00FF 0xCD)).1 = 0xCD ∧
    (pop (State.reset.ringWrite 0x00FF 0xCD)).2.sp = 0x00C0 := by decide
theorem test_push_leaves_memory_K6 : (push 0x12 State.reset).memRead 0x00FE = 0xFF := by decide
theorem test_size_one_ring_K7 :
    (push 7 (State.resetWith { Config.exampleInst with stackSize := 1, ringInit := [0] })).sp = 0x00FF ∧
    (push 7 (State.resetWith { Config.exampleInst with stackSize := 1, ringInit := [0] })).ringRead 0x00FF = 7 := by decide
theorem test_reset_pc_and_sp : State.reset.pc = 0 ∧ State.reset.sp = 0x00FF ∧ State.reset.packCcr = 0xE0 := by decide
theorem test_memory_drops_fill : (State.reset.memWrite 5 0xFF).mem = [] ∧ ((State.reset.memWrite 5 1).memWrite 5 0xFF).mem = [] := by
  decide

/-! ### Witnesses: concrete states and operands that meet the hypotheses of each statement -/

/-- The invariant holds at reset; it is the premise of most statements. -/
theorem witness_invariant_reset : StateInv State.reset :=
  ⟨by decide, by decide, by decide, by decide, by decide, fun _ h => by cases h⟩

/-- The invariant with a table that is not the default one (`StepKeepsInvariant`, `PlacedWordRuns`, `ResetMeetsInvariant`). -/
theorem witness_invariant_other_table : StateInv otherTableReset ∧ otherTableReset.cfg.optab ≠ defaultOptab :=
  ⟨⟨by decide, by decide, by decide, by decide, by decide, fun _ h => by cases h⟩, by decide⟩

/-- `SampleWordsDecode`: the clause about every well-formed table, at the default and at another one. -/
theorem witness_tables : Config.exampleInst.wf = true ∧ ({ Config.exampleInst with optab := otherTable } : Config).wf = true := by
  decide

/-- The two round trips: words of another table, one of a bit form, one left as in the default table. -/
theorem witness_round_trip_other_table : AssignedTo otherTable (.bset6 0x80) 0x9D ∧ AssignedTo otherTable (.ldaExt 0x1234) 0xC6 ∧
    decode otherTable [0x9D, 0x80, 0x81] = .ok (.bset6 0x80, [0x81]) :=
  ⟨⟨rfl, fun _ => rfl⟩, ⟨rfl, fun h => by cases h⟩, rfl⟩

/-- The invariant holds at the two ends of the stack window. -/
theorem witness_invariant_bottom : StateInv { State.reset with sp := 0x00C0 } :=
  ⟨by decide, by decide, by decide, by decide, by decide, fun _ h => by cases h⟩

/-- The invariant with the switches at their other values (`NegateResult`, `RotateResult`: the second clauses). -/
theorem witness_invariant_other_switches : StateInv otherSwitches ∧ otherSwitches.cfg.negCarryRule = .additive ∧
    otherSwitches.cfg.rotateThroughCarry = true ∧ otherSwitches.cfg.cmpUpdatesC = true :=
  ⟨⟨by decide, by decide, by decide, by decide, by decide, fun _ h => by cases h⟩, rfl, rfl, rfl⟩

/-- `NegateResult`, `RotateResult`, `CompareResult`: the first clauses, at reset. -/
theorem witness_reset_switches : State.reset.cfg.negCarryRule = .borrow ∧ State.reset.cfg.rotateThroughCarry = false ∧
    State.reset.cfg.cmpUpdatesC = false := by decide

/-- `StepRunsDecodedInstruction`. -/
theorem witness_step_runs : (startAt 0x0100 0xE0 [0xA0, 0x05]).fault = none ∧ (Instr.subImm 0x05).wf = true ∧
    decode defaultOptab [(startAt 0x0100 0xE0 [0xA0, 0x05]).memRead 0x0100, (startAt 0x0100 0xE0 [0xA0, 0x05]).memRead 0x0101,
      (startAt 0x0100 0xE0 [0xA0, 0x05]).memRead 0x0102] = .ok (.subImm 0x05, [0xFF]) :=
  ⟨rfl, rfl, rfl⟩

/-- `DecodeEncodeRoundTrip` and `EncodeDecodeRoundTrip`. -/
theorem witness_round_trip : (Instr.ldaExt 0x1234).wf = true ∧ decode defaultOptab [0xC6, 0x12, 0x34, 0x81] = .ok (.ldaExt 0x1234, [0x81]) := by
  decide

/-- `UnknownOpcodeLatches`: the reset state reads `FILL`, which is unassigned; another table without `42`. -/
theorem witness_unknown_opcode : State.reset.fault = none ∧ State.reset.cfg.optab.lookup (State.reset.memRead State.reset.pc) = none ∧
    State.reset.cfg.optab = defaultOptab ∧ State.reset.memRead State.reset.pc ∈ illegalBytes ∧ otherTable.lookup 0x42 = none := by decide

/-- `HaltedStateReportsSameFault`, the second case of `StepIsTotal`: a latched state. -/
theorem witness_halted : (State.reset.latchUnknownOpcode 0xFF).fault =
    some { cause := .unknownOpcode, pc0 := 0, opcode := 0xFF } := by decide

/-- `PlacedWordRuns`, at one, two and three bytes. -/
theorem witness_placed_word : StateInv State.reset ∧ State.reset.cfg.optab = defaultOptab ∧
    (∃ rest, decode otherTableReset.cfg.optab (tableWordBytes 16 0x809D) = .ok (.bset6 0x80, rest)) ∧ decodeTableWord 8 0x42 = some .mul ∧
    decodeTableWord 16 0x05A6 = some (.ldaImm 0x05) ∧ decodeTableWord 24 0x10800F = some (.brclr7 0x80 0x10) :=
  ⟨witness_invariant_reset, rfl, ⟨_, rfl⟩, by decide⟩

/-- `ResetMeetsInvariant`: the smallest ring. -/
theorem witness_reset_invariant :
    ({ Config.exampleInst with stackSize := 1, ringInit := [0] } : Config).wf = true := by decide

/-- `StepKeepsInvariant`, `StepKeepsParameters`: a step that latches and a step that runs. -/
theorem witness_step_next : StateInv State.reset ∧ (∃ t, step State.reset = .next t) ∧
    ∃ t, step (startAt 0 0xE0 [0x83]) = .next t :=
  ⟨witness_invariant_reset, ⟨_, rfl⟩, ⟨_, rfl⟩⟩

/-- `PushWritesBelowSp`: a cell that is not the one pushed to, at the bottom of the window. -/
theorem witness_push_other_cell : StateInv State.reset ∧ stackBottom State.reset.cfg ≤ (0x00C0 : Addr).toNat ∧
    (0x00C0 : Addr) ≠ (push 1 State.reset).sp :=
  ⟨witness_invariant_reset, by decide⟩

/-- `PushesPopInReverse` and `FullRingWrapsAround`: as many pushes as the ring has cells. -/
theorem witness_full_ring : StateInv State.reset ∧ (List.replicate 64 (1 : Byte)).length ≤ State.reset.cfg.stackSize ∧
    ((1 : Byte) :: List.replicate 63 2).length = State.reset.cfg.stackSize :=
  ⟨witness_invariant_reset, by decide⟩

/-- `StoreResult`: `stx` has a form for this operand, and none for the last. -/
theorem witness_stx_forms : StateInv State.reset ∧ Instr.ofStx (.ix1 0) = some (.stxIx1 0) ∧ Instr.ofStx .ix = none :=
  ⟨witness_invariant_reset, by decide⟩

/-- `BitBranchResult`: both clauses, at bit 0 and bit 7. -/
theorem witness_bit_branch : ((State.reset.memWrite 0x0080 0x01).memRead (zext16 0x80)).getLsbD (0 : Fin 8).val = true ∧
    ((State.reset.memWrite 0x0080 0x01).memRead (zext16 0x80)).getLsbD (7 : Fin 8).val = false := by decide

/-- `BitSetClearResult`: the bit itself and a neighbour. -/
theorem witness_bit_index : StateInv State.reset ∧ (0 : Nat) < 8 ∧ (7 : Nat) < 8 ∧ (7 : Nat) ≠ (6 : Fin 8).val :=
  ⟨witness_invariant_reset, by decide⟩

/-- `BranchResult`: one branch taken and one not. -/
theorem witness_branch_clauses : branchTaken .bcc State.reset ∧ ¬ branchTaken .bcs State.reset := by
  simp [branchTaken, State.reset, State.resetWith]

/-- `BranchToItselfStays`. -/
theorem witness_branch_to_itself : (startAt 0x0100 0xE0 [0x20, 0xFE]).cfg.optab = defaultOptab ∧
    defaultOptab.lookup 0x20 = some (.branch .bra) ∧ (startAt 0x0100 0xE0 [0x20, 0xFE]).fault = none ∧
    (startAt 0x0100 0xE0 [0x20, 0xFE]).memRead 0x0100 = 0x20 ∧ (startAt 0x0100 0xE0 [0x20, 0xFE]).memRead (0x0100 + 1) = 0xFE := by
  decide

/-- `CallReturnRoundTrip`: both kinds of call, and the stack as the call left it. -/
theorem witness_call_return : StateInv State.reset ∧ 2 ≤ State.reset.cfg.stackSize ∧ (∃ rr, Instr.bsr 0x10 = .bsr rr) ∧
    (∃ o, Instr.jsrIx = .ofJsr o) ∧ (∃ t, exec (.bsr 0x10) State.reset = .next t ∧ sameStack t t) ∧
    ∃ t, exec .jsrIx State.reset = .next t ∧ sameStack t t :=
  ⟨witness_invariant_reset, by decide, ⟨_, rfl⟩, ⟨.ix, rfl⟩, ⟨_, rfl, rfl, rfl, rfl⟩, ⟨_, rfl, rfl, rfl, rfl⟩⟩

/-- `SwiRtiRoundTrip`: the stack as the `swi` left it, everything else free to differ. -/
theorem witness_swi_rti : StateInv State.reset ∧ 5 ≤ State.reset.cfg.stackSize ∧
    ∃ t, exec .swi State.reset = .next t ∧ sameStack t { t with a := 1, pc := 9 } :=
  ⟨witness_invariant_reset, by decide, ⟨_, rfl, ⟨rfl, rfl, rfl⟩⟩⟩

/-- The whole-machine rules: an instruction of each side of their disjunctions answers a next state. -/
theorem witness_exec_next : (∃ t, exec .clc State.reset = .next t) ∧ (∃ t, exec (.addImm 1) State.reset = .next t) ∧
    (∃ t, exec (.cmpImm 1) otherSwitches = .next t) ∧ ∃ t, exec .rsp State.reset = .next t :=
  ⟨⟨_, rfl⟩, ⟨_, rfl⟩, ⟨_, rfl⟩, ⟨_, rfl⟩⟩

/-- `LoadProgramWritesBytes`: the last byte of memory fits, one more does not, and an index and an address outside. -/
theorem witness_load_program : StateInv State.reset ∧ 0xFFFF + [(1 : Byte)].length ≤ 65536 ∧ 65536 < 0xFFFF + [(1 : Byte), 2].length ∧ 65536 ≤ 65536 ∧
    0 < [(1 : Byte)].length ∧ (0xFFFE : Addr).toNat < 0xFFFF :=
  ⟨witness_invariant_reset, by decide⟩
theorem test_load_last_byte : seen (loadProgram 0xFFFF [7] State.reset) [0xFFFF, 0xFFFE] [] =
    some [0, 0, 0, 0xFF, 0xE0, 7, 0xFF] := by decide
theorem test_load_start_no_address_refused : loadProgram 65536 [] State.reset = .refused (.loadPastEnd 65536 0) := rfl
theorem test_load_past_end_refused : loadProgram 0xFFFF [7, 8] State.reset = .refused (.loadPastEnd 0xFFFF 2) := rfl

/-- `PresetsAreRangeChecked`: both sides of each range. -/
theorem test_preset_a_range : presetA 255 State.reset = .next { State.reset with a := 255 } ∧
    presetA 256 State.reset = .refused (.registerWidthViolation 256) := ⟨rfl, rfl⟩
theorem test_preset_pc_range : presetPc 65535 State.reset = .next { State.reset with pc := 65535 } ∧
    presetPc 65536 State.reset = .refused (.registerWidthViolation 65536) := ⟨rfl, rfl⟩
theorem test_preset_flag_range : presetFlag .interruptMask 1 State.reset = .next { State.reset with flagI := true } ∧
    presetFlag .interruptMask 2 State.reset = .refused (.registerWidthViolation 2) := ⟨rfl, rfl⟩
theorem test_host_reset : hostReset { State.reset with a := 1, fault := some { cause := .unknownOpcode, pc0 := 0, opcode := 0xFF } } =
    State.reset := by decide

end Sys2Proof.Tests
end

section
/-! Proofs about the stack operations of 10_state.md R26 and R27: what a push and a pop do in a state that meets the invariant. -/

namespace Sys2Proof.Machine

/-! ### What the invariant says of the stack parameters -/

theorem StateInv.one_le_stackSize {s : State} (h : StateInv s) : 1 ≤ s.cfg.stackSize := by
  obtain ⟨-, hpos, -⟩ := Config.wf_iff.mp h.cfg_wf
  exact hpos

theorem StateInv.stackSize_le {s : State} (h : StateInv s) : s.cfg.stackSize ≤ s.cfg.stackTop.toNat + 1 := by
  obtain ⟨-, -, hfits, -⟩ := Config.wf_iff.mp h.cfg_wf
  exact hfits

/-- The cell the next push writes lies in the stack window. -/
theorem StateInv.spDown_window {s : State} (h : StateInv s) :
    stackBottom s.cfg ≤ (spDown s.cfg s.sp).toNat ∧ (spDown s.cfg s.sp).toNat ≤ s.cfg.stackTop.toNat :=
  Machine.spDown_window h.one_le_stackSize h.sp_le

/-! ### Reading the ring after a push -/

/-- `sp` is not part of the ring, so a push reads like the ring write inside it. -/
theorem push_ringRead_eq_ringWrite (v : Byte) (s : State) (cell : Addr) :
    (push v s).ringRead cell = (s.ringWrite (spDown s.cfg s.sp) v).ringRead cell := rfl

/-- After a push, the cell below the old `sp` holds the byte and every other cell of the window is as before. -/
theorem StateInv.push_ringRead {s : State} (h : StateInv s) (v : Byte) {cell : Addr} (hcell : stackBottom s.cfg ≤ cell.toNat) :
    (push v s).ringRead cell = if cell = spDown s.cfg s.sp then v else s.ringRead cell := by
  obtain ⟨hge, hle⟩ := h.spDown_window
  rw [push_ringRead_eq_ringWrite, ringRead_ringWrite h.ring_len h.stackSize_le hge hle hcell]

/-- Both forms of the wrap test agree: `sp` is at the bottom (or below) exactly when one less passes the bottom (R26). -/
theorem sub_one_lt_stackBottom_iff (c : Config) (sp : Addr) :
    (sp.toNat : Int) - 1 < (stackBottom c : Int) ↔ sp.toNat ≤ stackBottom c := by
  omega

/-! ### The obligations -/

/-- Settles O16: the new `sp` is `spDown`, a cell of the window, and the ring write inside the push changes that cell only. -/
theorem pushWritesBelowSp : Obligations.PushWritesBelowSp := by
  intro s v hinv
  refine ⟨?sp, ?pushedCell, ?otherCells, rfl⟩
  case sp => simp only [push_sp, spDown_toNat, sub_one_lt_stackBottom_iff]
  case pushedCell =>
    obtain ⟨hge, -⟩ := hinv.spDown_window
    rw [push_sp, hinv.push_ringRead v hge, if_pos rfl]
  case otherCells =>
    intro cell hcell hne
    rw [push_sp] at hne
    rw [hinv.push_ringRead v hcell, if_neg hne]

/-- Settles O17: a pop reads at the old `sp` and replaces `sp` by `spUp`; the bottom fits an address because the ring has a cell. -/
theorem popReadsAtSp : Obligations.PopReadsAtSp := by
  intro s hinv
  have hsp : (pop s).2.sp.toNat = if s.cfg.stackTop.toNat < s.sp.toNat + 1 then stackBottom s.cfg else s.sp.toNat + 1 := by
    rw [pop_snd_sp, spUp_toNat hinv.one_le_stackSize]
  exact ⟨rfl, hsp, rfl⟩

end Sys2Proof.Machine
end

section
/-! Proofs about memory (20_memory.md R43): what a read answers after a write in a state that meets the invariant. -/

namespace Sys2Proof.Machine

/-- The byte written is read back, also where it equals `FILL` and the canonical form does not list it. -/
theorem StateInv.memRead_memWrite_same {s : State} (h : StateInv s) (addr : Addr) (v : Byte) :
    (s.memWrite addr v).memRead addr = v := by
  rw [memRead_memWrite h.mem_wf, if_pos rfl]

/-- A write at `addr` leaves what every other address reads. -/
theorem StateInv.memWrite_memSameExcept {s : State} (h : StateInv s) (addr : Addr) (v : Byte) :
    memSameExcept addr s (s.memWrite addr v) := by
  intro other hne
  rw [memRead_memWrite h.mem_wf, if_neg hne]

/-- Settles O15, from the law of a read after a write in a canonical memory; `memWrite` updates the field `mem` alone. -/
theorem memWriteThenRead : Obligations.MemWriteThenRead := by
  intro s addr v hinv
  exact ⟨hinv.memRead_memWrite_same addr v, hinv.memWrite_memSameExcept addr v, rfl⟩

end Sys2Proof.Machine
end

section
/-! Proofs about value-reading instructions in general: the row of the opcode map, the next state, `N` and `Z` of a result. -/

namespace Sys2Proof.Machine

/-- The row of each value-reading mnemonic in the columns `0xA` to `0xF` of the default opcode map (30_encoding.md R65). -/
def valueNibble : ValueOp → Nat
  | .sub => 0x0
  | .cmp => 0x1
  | .sbc => 0x2
  | .cpx => 0x3
  | .and => 0x4
  | .lda => 0x6
  | .eor => 0x8
  | .adc => 0x9
  | .ora => 0xA
  | .add => 0xB
  | .ldx => 0xE

/-- Each form of a value-reading mnemonic stands in the mnemonic's row, in the column of its addressing mode. -/
theorem encode_ofValue (op : ValueOp) (o : ValueOperand) : encode (.ofValue op o) = valueBytes (valueNibble op) o := by
  cases o with
  | imm ii => cases op <;> rfl
  | mem o => cases o <;> cases op <;> rfl

/-- A value-reading instruction completes: its handler's state, with `pc` past the instruction (40_dispatch_addressing.md R84). -/
theorem exec_ofValue_eq_next (op : ValueOp) (o : ValueOperand) (s : State) :
    exec (.ofValue op o) s = .next { valueHandler op (readValue o s) s with
      pc := s.pc + BitVec.ofNat 16 (Instr.ofValue op o).len } := by
  rw [exec_ofValue, runValue_eq, nextPc, len_ofValue]

/-- Bit 7 of a byte as a bound on its value. -/
theorem getLsbD_seven_iff (r : Byte) : r.getLsbD 7 = true ↔ 128 ≤ r.toNat := by
  have hbit : r.getLsbD 7 = r.msb := (BitVec.msb_eq_getLsbD_last r).symm
  rw [hbit, BitVec.msb_eq_decide, decide_eq_true_iff]

/-- Whatever else a state changes, flags written as `NZ(r)` writes them are the `N` and `Z` of `r` (10_state.md R21). -/
theorem hasNZ_of_flags {t : State} {r : Byte} (hN : t.flagN = r.getLsbD 7) (hZ : t.flagZ = (r == 0)) : hasNZ t r := by
  have hzero : r = 0 ↔ r.toNat = 0 := BitVec.toNat_inj.symm
  exact ⟨by rw [hN, getLsbD_seven_iff], by rw [hZ, beq_iff_eq, hzero]⟩

end Sys2Proof.Machine
end

section
/-! Proofs about `add` and `sub` (41_arithmetic.md R100, R102): what the handlers leave in `a` and in the flags they write. -/

namespace Sys2Proof.Machine

/-! ### The handlers, in numbers -/

theorem addHandler_a_toNat (m : Byte) (s : State) : (addHandler m s).a.toNat = (s.a.toNat + m.toNat) % 256 :=
  BitVec.toNat_ofNat _ _

theorem addHandler_flagC_iff (m : Byte) (s : State) : (addHandler m s).flagC = true ↔ 255 < s.a.toNat + m.toNat := by
  simp [addHandler, addCarry, bitNat]

theorem addHandler_flagH_iff (m : Byte) (s : State) :
    (addHandler m s).flagH = true ↔ 0x0F < s.a.toNat % 16 + m.toNat % 16 := by
  simp [addHandler, addHalfCarry, bitNat]

/-- The masked difference is the integer remainder, so a borrow wraps it into 0 to 255. -/
theorem subHandler_a_toNat (m : Byte) (s : State) :
    ((subHandler m s).a.toNat : Int) = ((s.a.toNat : Int) - (m.toNat : Int)) % 256 := by
  have hmask : (subHandler m s).a.toNat = (((s.a.toNat : Int) - (m.toNat : Int)) % 256).toNat := BitVec.toNat_ofInt _
  rw [hmask, Int.toNat_of_nonneg (Int.emod_nonneg _ (by decide))]

theorem subHandler_flagC_iff (m : Byte) (s : State) : (subHandler m s).flagC = true ↔ s.a.toNat < m.toNat := by
  simp [subHandler, subBorrow, bitNat]

/-! ### The obligations -/

/-- Settles O22: every form runs `addHandler` on its operand, which writes `a` and the flags but `I`, and then moves `pc`. -/
theorem addResult : Obligations.AddResult := by
  intro o s
  refine ⟨encode_ofValue .add o, _, exec_ofValue_eq_next .add o s, ?frame, ?memory, rfl, ?a, ?C, ?H, ?NZ⟩
  case frame => rfl
  case memory => exact fun _ => rfl
  case a => exact addHandler_a_toNat (readValue o s) s
  case C => exact addHandler_flagC_iff (readValue o s) s
  case H => exact addHandler_flagH_iff (readValue o s) s
  case NZ => exact hasNZ_of_flags rfl rfl

/-- Settles O24: every form runs `subHandler` on its operand, which writes `a`, `N`, `Z` and the borrow but not `H`, and then
moves `pc`. -/
theorem subResult : Obligations.SubResult := by
  intro o s
  refine ⟨encode_ofValue .sub o, _, exec_ofValue_eq_next .sub o s, ?frame, ?memory, rfl, ?a, ?C, ?NZ⟩
  case frame => rfl
  case memory => exact fun _ => rfl
  case a => exact subHandler_a_toNat (readValue o s) s
  case C => exact subHandler_flagC_iff (readValue o s) s
  case NZ => exact hasNZ_of_flags rfl rfl

end Sys2Proof.Machine
end

section
/-! Proofs about read-modify-write instructions in general: the row of the opcode map, the operand written back, the next state. -/

namespace Sys2Proof.Machine

/-- The row of each read-modify-write mnemonic in the columns `0x3` to `0x7` of the default opcode map (30_encoding.md R65). -/
def rmwNibble : RmwOp → Nat
  | .neg => 0x0
  | .com => 0x3
  | .lsr => 0x4
  | .ror => 0x6
  | .asr => 0x7
  | .lsl => 0x8
  | .rol => 0x9
  | .dec => 0xA
  | .inc => 0xC

/-- Each form of a read-modify-write mnemonic stands in the mnemonic's row, in the column of its operand's form. -/
theorem encode_ofRmw (op : RmwOp) (o : RmwOperand) : encode (.ofRmw op o) = rmwBytes (rmwNibble op) o := by
  cases o <;> cases op <;> rfl

/-! ### The operand written back -/

/-- A memory read looks at the memory and the parameters alone. -/
theorem memRead_congr {s t : State} (hmem : t.mem = s.mem) (hcfg : t.cfg = s.cfg) (q : Addr) : t.memRead q = s.memRead q := by
  unfold State.memRead
  rw [hmem, hcfg]

/-- `MemWrite` seen from a state that shares only memory and parameters with the one written: the cell holds the byte, and no other
address changes. -/
theorem StateInv.stored {s t : State} (h : StateInv s) {ea : Addr} {r : Byte} (hmem : t.mem = (s.memWrite ea r).mem)
    (hcfg : t.cfg = s.cfg) : t.memRead ea = r ∧ memSameExcept ea s t := by
  have hread : ∀ q, t.memRead q = (s.memWrite ea r).memRead q := memRead_congr hmem hcfg
  refine ⟨?cell, fun q hne => ?others⟩
  case cell => rw [hread, h.memRead_memWrite_same]
  case others => rw [hread, h.memWrite_memSameExcept ea r q hne]

/-- Writing back puts the result where the operand came from and nowhere else (40_dispatch_addressing.md R96), whatever flags and
`pc` the instruction leaves. -/
theorem StateInv.wroteOperand_of_writeRmw {s t : State} (h : StateInv s) {o : RmwOperand} {r : Byte}
    (ha : t.a = (writeRmw o r s).a) (hx : t.x = (writeRmw o r s).x) (hmem : t.mem = (writeRmw o r s).mem)
    (hcfg : t.cfg = s.cfg) : wroteOperand o r s t := by
  cases o with
  | acc => exact ⟨ha, hx, memRead_congr hmem hcfg, hmem⟩
  | index => exact ⟨ha, hx, memRead_congr hmem hcfg, hmem⟩
  | dir dd => exact ⟨ha, hx, h.stored hmem hcfg⟩
  | ix1 ff => exact ⟨ha, hx, h.stored hmem hcfg⟩
  | ix => exact ⟨ha, hx, h.stored hmem hcfg⟩

/-! ### The next state -/

/-- Every read-modify-write handler writes `N`, `Z` and `C` alone. -/
theorem rmwHandler_snd_frame (op : RmwOp) (v : Byte) (s : State) : (rmwHandler op v s).2 = { s with
    flagN := (rmwHandler op v s).2.flagN
    flagZ := (rmwHandler op v s).2.flagZ
    flagC := (rmwHandler op v s).2.flagC } := by
  cases op <;> rfl

/-- The write-back and the flags do not meet: it writes `a`, `x` or memory as it would without them. -/
theorem writeRmw_withFlags (o : RmwOperand) (r : Byte) (s : State) (n z c : Bool) :
    writeRmw o r { s with flagN := n, flagZ := z, flagC := c } = { s with
      a := (writeRmw o r s).a
      x := (writeRmw o r s).x
      mem := (writeRmw o r s).mem
      flagN := n
      flagZ := z
      flagC := c } := by
  cases o <;> rfl

/-- The byte a read-modify-write instruction writes back. -/
def rmwResult (op : RmwOp) (o : RmwOperand) (s : State) : Byte := (rmwHandler op (readRmw o s) s).1

/-- The state after a read-modify-write instruction, field by field: the operand as written back to `s`, the handler's `N`, `Z` and
`C`, and `pc` past the instruction. -/
def rmwNext (op : RmwOp) (o : RmwOperand) (s : State) : State :=
  { s with
    a := (writeRmw o (rmwResult op o s) s).a
    x := (writeRmw o (rmwResult op o s) s).x
    mem := (writeRmw o (rmwResult op o s) s).mem
    flagN := (rmwHandler op (readRmw o s) s).2.flagN
    flagZ := (rmwHandler op (readRmw o s) s).2.flagZ
    flagC := (rmwHandler op (readRmw o s) s).2.flagC
    pc := s.pc + BitVec.ofNat 16 (Instr.ofRmw op o).len }

/-- A read-modify-write instruction completes, in the state `rmwNext` (40_dispatch_addressing.md R84, R96). -/
theorem exec_ofRmw_eq_next (op : RmwOp) (o : RmwOperand) (s : State) : exec (.ofRmw op o) s = .next (rmwNext op o s) := by
  rw [exec_ofRmw, runRmw_eq, rmwHandler_snd_frame, writeRmw_withFlags, nextPc, ← len_ofRmw op o]
  rfl

/-- In a canonical memory a read-modify-write instruction writes its result to its operand and nowhere else. -/
theorem StateInv.rmwNext_wroteOperand {s : State} (h : StateInv s) (op : RmwOp) (o : RmwOperand) :
    wroteOperand o (rmwResult op o s) s (rmwNext op o s) :=
  h.wroteOperand_of_writeRmw rfl rfl rfl rfl

end Sys2Proof.Machine
end

section
/-! Proofs about `com` (43_complement_negate.md R121 to R123): the byte its handler answers. -/

namespace Sys2Proof.Machine

/-- The complement of a byte is a byte, so nothing is masked away. -/
theorem comHandler_fst_toNat (v : Byte) (s : State) : (comHandler v s).1.toNat = 255 - v.toNat := by
  have hbyte : 255 - v.toNat < 2 ^ 8 := by omega
  exact (BitVec.toNat_ofNat _ _).trans (Nat.mod_eq_of_lt hbyte)

/-- Settles O28: every form runs `comHandler` on its operand, which answers the complement, `N` and `Z` of it and `C` set; the byte is
written back to the operand and `pc` moves on. -/
theorem complementResult : Obligations.ComplementResult := by
  intro o s hinv
  refine ⟨encode_ofRmw .com o, rmwNext .com o s, rmwResult .com o s, exec_ofRmw_eq_next .com o s, ?frame, rfl, ?result,
    hinv.rmwNext_wroteOperand .com o, ?NZ⟩
  case frame => rfl
  case result => exact comHandler_fst_toNat (readRmw o s) s
  case NZ => exact hasNZ_of_flags rfl rfl

end Sys2Proof.Machine
end

section
/-! Proofs about `lsl`, `lsr` and `asr` (44_shift_rotate.md R130, R133 to R141): the bytes the handlers answer, the bits they displace. -/

namespace Sys2Proof.Machine

/-- Every read-modify-write instruction leaves `N` and `Z` of the byte it writes back. -/
theorem rmwNext_hasNZ (op : RmwOp) (o : RmwOperand) (s : State) : hasNZ (rmwNext op o s) (rmwResult op o s) := by
  cases op <;> exact hasNZ_of_flags rfl rfl

/-! ### The results -/

theorem lslHandler_fst_toNat (v : Byte) (s : State) : (lslHandler v s).1.toNat = (2 * v.toNat) % 256 := by
  have hshift : (v <<< 1).toNat = (v.toNat <<< 1) % 2 ^ 8 := BitVec.toNat_shiftLeft
  exact hshift.trans (by rw [Nat.shiftLeft_eq, Nat.mul_comm]; rfl)

/-- A byte shifted right is its half, with bit 7 vacated. -/
theorem ushiftRight_one_toNat (v : Byte) : (v >>> 1).toNat = v.toNat / 2 := by
  rw [BitVec.toNat_ushiftRight, Nat.shiftRight_eq_div_pow, pow_one]

theorem lsrHandler_fst_toNat (v : Byte) (s : State) : (lsrHandler v s).1.toNat = v.toNat / 2 :=
  ushiftRight_one_toNat v

/-- Bit 7 of a byte kept in its place, as a number. -/
theorem and_bit_seven_toNat (v : Byte) : (v &&& 0x80).toNat = if 128 ≤ v.toNat then 128 else 0 := by
  have hmask : v &&& 0x80 = if v.getLsbD 7 then 0x80 else 0 := BitVec.and_twoPow v 7
  rw [hmask, apply_ite BitVec.toNat]
  simp only [getLsbD_seven_iff]
  rfl

/-- The kept bit 7 enters the place the shift vacated, so the two parts of the result add up. -/
theorem asrHandler_fst_toNat (v : Byte) (s : State) :
    (asrHandler v s).1.toNat = v.toNat / 2 + (if 128 ≤ v.toNat then 128 else 0) := by
  have hparts : (asrHandler v s).1.toNat = v.toNat / 2 ||| (if 128 ≤ v.toNat then 128 else 0) := by
    rw [← ushiftRight_one_toNat, ← and_bit_seven_toNat]
    exact BitVec.toNat_or _ _
  have hhalf : v.toNat / 2 < 2 ^ 7 := by omega
  rw [hparts]
  split
  case isTrue => rw [Nat.or_comm, ← Nat.two_pow_add_eq_or_of_lt hhalf 1, Nat.add_comm]
  case isFalse => rw [Nat.or_zero, Nat.add_zero]

/-! ### The displaced bits -/

/-- Bit 0 of a byte as its parity. -/
theorem getLsbD_zero_iff (v : Byte) : v.getLsbD 0 = true ↔ v.toNat % 2 = 1 := by
  rw [BitVec.getLsbD, Nat.testBit_zero, decide_eq_true_iff]

theorem lslHandler_flagC_iff (v : Byte) (s : State) : (lslHandler v s).2.flagC = true ↔ 128 ≤ v.toNat :=
  getLsbD_seven_iff v

theorem lsrHandler_flagC_iff (v : Byte) (s : State) : (lsrHandler v s).2.flagC = true ↔ v.toNat % 2 = 1 :=
  getLsbD_zero_iff v

theorem asrHandler_flagC_iff (v : Byte) (s : State) : (asrHandler v s).2.flagC = true ↔ v.toNat % 2 = 1 :=
  getLsbD_zero_iff v

/-! ### The obligation -/

/-- Settles O30: every form runs its mnemonic's handler on its operand, which answers the shifted byte, `N` and `Z` of it and the
displaced bit in `C`; the byte is written back to the operand and `pc` moves on. -/
theorem shiftResult : Obligations.ShiftResult := by
  intro o s hinv
  refine ⟨?lsl, ?lsr, ?asr⟩
  case lsl =>
    exact ⟨encode_ofRmw .lsl o, rmwNext .lsl o s, rmwResult .lsl o s, exec_ofRmw_eq_next .lsl o s, rfl, rfl,
      lslHandler_fst_toNat (readRmw o s) s, hinv.rmwNext_wroteOperand .lsl o, rmwNext_hasNZ .lsl o s,
      lslHandler_flagC_iff (readRmw o s) s⟩
  case lsr =>
    exact ⟨encode_ofRmw .lsr o, rmwNext .lsr o s, rmwResult .lsr o s, exec_ofRmw_eq_next .lsr o s, rfl, rfl,
      lsrHandler_fst_toNat (readRmw o s) s, hinv.rmwNext_wroteOperand .lsr o, rmwNext_hasNZ .lsr o s,
      lsrHandler_flagC_iff (readRmw o s) s⟩
  case asr =>
    exact ⟨encode_ofRmw .asr o, rmwNext .asr o s, rmwResult .asr o s, exec_ofRmw_eq_next .asr o s, rfl, rfl,
      asrHandler_fst_toNat (readRmw o s) s, hinv.rmwNext_wroteOperand .asr o, rmwNext_hasNZ .asr o s,
      asrHandler_flagC_iff (readRmw o s) s⟩

end Sys2Proof.Machine
end

section
/-! Proofs about the loads `lda` and `ldx` (45_data_movement.md R150, R152): what the handlers write and what they leave. -/

namespace Sys2Proof.Machine

/-! ### The handlers -/

/-- `lda` writes its operand to `a`, and `N`, `Z`, and nothing else. -/
theorem ldaHandler_frame (m : Byte) (s : State) : ldaHandler m s = { s with
    a := m
    flagN := m.getLsbD 7
    flagZ := m == 0 } := rfl

/-- `ldx` writes its operand to `x`, and `N`, `Z`, and nothing else. -/
theorem ldxHandler_frame (m : Byte) (s : State) : ldxHandler m s = { s with
    x := m
    flagN := m.getLsbD 7
    flagZ := m == 0 } := rfl

/-! ### The next states -/

theorem exec_ofValue_lda_eq_next (o : ValueOperand) (s : State) : exec (.ofValue .lda o) s = .next { s with
    a := readValue o s
    flagN := (readValue o s).getLsbD 7
    flagZ := readValue o s == 0
    pc := s.pc + BitVec.ofNat 16 (Instr.ofValue .lda o).len } := by
  rw [exec_ofValue_eq_next, valueHandler, ldaHandler_frame]

/-- The operand is read in `s`, the state the step begins in, so an indexed address is formed from the `x` that is replaced. -/
theorem exec_ofValue_ldx_eq_next (o : ValueOperand) (s : State) : exec (.ofValue .ldx o) s = .next { s with
    x := readValue o s
    flagN := (readValue o s).getLsbD 7
    flagZ := readValue o s == 0
    pc := s.pc + BitVec.ofNat 16 (Instr.ofValue .ldx o).len } := by
  rw [exec_ofValue_eq_next, valueHandler, ldxHandler_frame]

/-! ### The obligation -/

/-- Settles O33: every form of either load puts its operand, read in the old state, into the register and `N`, `Z` of it into the
flags; memory is no part of what changes. -/
theorem loadResult : Obligations.LoadResult := by
  intro o s
  refine ⟨⟨encode_ofValue .lda o, _, exec_ofValue_lda_eq_next o s, rfl, ?ldaMemory, rfl, ?ldaNZ⟩,
    ⟨encode_ofValue .ldx o, _, exec_ofValue_ldx_eq_next o s, rfl, ?ldxMemory, rfl, ?ldxNZ⟩⟩
  case ldaMemory => exact memRead_congr rfl rfl
  case ldaNZ => exact hasNZ_of_flags rfl rfl
  case ldxMemory => exact memRead_congr rfl rfl
  case ldxNZ => exact hasNZ_of_flags rfl rfl

end Sys2Proof.Machine
end

section
/-! Proofs about `clr` (45_data_movement.md R156 to R158): the 0 written to the operand, the two flags, the next state. -/

namespace Sys2Proof.Machine

/-- Each form of `clr` stands in row `0xF`, in the column of its operand's form (30_encoding.md R65). -/
theorem encode_ofClr (o : RmwOperand) : encode (.ofClr o) = rmwBytes 0xF o := by
  cases o <;> rfl

theorem runClear_eq (o : RmwOperand) (s : State) :
    runClear o s = .next { writeRmw o 0 { s with flagN := false, flagZ := true } with pc := nextPc (rmwFormat o) s } := rfl

/-- The state after a `clr`, field by field: 0 written to the operand in `s`, `N = 0`, `Z = 1`, and `pc` past the instruction. -/
def clearNext (o : RmwOperand) (s : State) : State :=
  { s with
    a := (writeRmw o 0 s).a
    x := (writeRmw o 0 s).x
    mem := (writeRmw o 0 s).mem
    flagN := false
    flagZ := true
    pc := s.pc + BitVec.ofNat 16 (Instr.ofClr o).len }

/-- A `clr` completes, in the state `clearNext`; the flags it writes do not meet the write-back, which leaves `C` as it was. -/
theorem exec_ofClr_eq_next (o : RmwOperand) (s : State) : exec (.ofClr o) s = .next (clearNext o s) := by
  rw [exec_ofClr, runClear_eq, writeRmw_withFlags o 0 s false true s.flagC, nextPc, ← len_ofClr o]
  rfl

/-- Settles O36: every form ends in `clearNext`, and in a canonical memory its write-back clears the operand and nothing else. -/
theorem clearResult : Obligations.ClearResult := by
  intro o s hinv
  refine ⟨encode_ofClr o, clearNext o s, exec_ofClr_eq_next o s, ?frame, rfl, ?operand⟩
  case frame => rfl
  case operand => exact hinv.wroteOperand_of_writeRmw rfl rfl rfl rfl

end Sys2Proof.Machine
end

section
/-! Proofs about `tst` (46_incdec_compare_test.md R174 to R177): the two flags written, the operand only read. -/

namespace Sys2Proof.Machine

/-- Each form of `tst` stands in row `0xD`, in the column of its operand's form (30_encoding.md R65). -/
theorem encode_ofTst (o : RmwOperand) : encode (.ofTst o) = rmwBytes 0xD o := by
  cases o <;> rfl

theorem runTest_eq (o : RmwOperand) (s : State) :
    runTest o s = .next { s.withNZ (readRmw o s) with pc := nextPc (rmwFormat o) s } := rfl

/-- The state after a `tst`, field by field: `N` and `Z` of the operand, read in `s`, and `pc` past the instruction. -/
def testNext (o : RmwOperand) (s : State) : State :=
  { s with
    flagN := (readRmw o s).getLsbD 7
    flagZ := readRmw o s == 0
    pc := s.pc + BitVec.ofNat 16 (Instr.ofTst o).len }

/-- A `tst` completes, in the state `testNext`; unlike the other instructions of its column it writes nothing back. -/
theorem exec_ofTst_eq_next (o : RmwOperand) (s : State) : exec (.ofTst o) s = .next (testNext o s) := by
  rw [exec_ofTst, runTest_eq, nextPc, ← len_ofTst o]
  rfl

/-- Settles O38: every form ends in `testNext`, which shares memory and parameters with the old state. -/
theorem testResult : Obligations.TestResult := by
  intro o s
  refine ⟨encode_ofTst o, testNext o s, exec_ofTst_eq_next o s, ?frame, ?memory, rfl, ?NZ⟩
  case frame => rfl
  case memory => exact memRead_congr rfl rfl
  case NZ => exact hasNZ_of_flags rfl rfl

end Sys2Proof.Machine
end

section
/-! Proofs about `jmp` (49_subroutine_interrupt_control.md R215): the redirect to the effective address. -/

namespace Sys2Proof.Machine

/-- Each form of `jmp` stands in row `0xC`, in the column of its addressing mode (30_encoding.md R65). -/
theorem encode_ofJmp (o : AddrOperand) : encode (.ofJmp o) = addrBytes 0xC o := by
  cases o <;> rfl

/-- A `jmp` completes: the redirect writes `pc` alone, with the effective address formed from the old `x`. -/
theorem exec_ofJmp_eq_next (o : AddrOperand) (s : State) :
    exec (.ofJmp o) s = .next { s with pc := effAddr s.x o } := by
  rw [exec_ofJmp, redirect]

/-- Settles O43: every form ends in a redirect, and the state it ends in shares memory and parameters with the old one. -/
theorem jumpResult : Obligations.JumpResult := by
  intro o s
  refine ⟨encode_ofJmp o, _, exec_ofJmp_eq_next o s, rfl, ?memory⟩
  case memory => exact memRead_congr rfl rfl

end Sys2Proof.Machine
end

section
/-! Proofs about the inherent control instructions `clc`, `sec`, `cli`, `sei` and `rsp` (49_subroutine_interrupt_control.md R216 to
R220): one field written, and the step over one byte. -/

namespace Sys2Proof.Machine

/-- An inherent instruction is one byte long, so the step ends one past the `pc` it began at (10_state.md R15). -/
theorem advance_inh_eq (s s' : State) : advance .inh s s' = .next { s' with pc := s.pc + 1 } := rfl

/-! ### The next states -/

theorem exec_clc_eq_next (s : State) : exec .clc s = .next { s with flagC := false, pc := s.pc + 1 } :=
  advance_inh_eq s { s with flagC := false }

theorem exec_sec_eq_next (s : State) : exec .sec s = .next { s with flagC := true, pc := s.pc + 1 } :=
  advance_inh_eq s { s with flagC := true }

theorem exec_cli_eq_next (s : State) : exec .cli s = .next { s with flagI := false, pc := s.pc + 1 } :=
  advance_inh_eq s { s with flagI := false }

theorem exec_sei_eq_next (s : State) : exec .sei s = .next { s with flagI := true, pc := s.pc + 1 } :=
  advance_inh_eq s { s with flagI := true }

/-- `rsp` moves the pointer only: the ring is a field of its own, which it does not write. -/
theorem exec_rsp_eq_next (s : State) : exec .rsp s = .next { s with sp := s.cfg.stackTop, pc := s.pc + 1 } :=
  advance_inh_eq s { s with sp := s.cfg.stackTop }

/-! ### The obligations -/

/-- Settles O48: each of the four encodes as its one opcode byte and ends in a state with one flag and `pc` written. -/
theorem flagControlResult : Obligations.FlagControlResult := by
  refine ⟨rfl, rfl, rfl, rfl, ?nextStates⟩
  case nextStates =>
    intro s
    exact ⟨exec_clc_eq_next s, exec_sec_eq_next s, exec_cli_eq_next s, exec_sei_eq_next s⟩

/-- Settles O49: `rsp` encodes as its one opcode byte and ends in a state with `sp` and `pc` written. -/
theorem rspResult : Obligations.RspResult :=
  ⟨rfl, exec_rsp_eq_next⟩

end Sys2Proof.Machine
end

section
/-! The operand forms as the decoder and the encoder see them (30_encoding.md R60 to R62): the mode and the bytes of an operand, the
entry a mode gives, the descriptor and the operand bytes of every form. -/

namespace Sys2Proof

open Sys2Proof.Machine

/-! ### The operand forms: mode and operand bytes -/

/-- The mode of a memory operand. -/
def AddrOperand.mode : AddrOperand → AddrMode
  | .dir _ => .dir
  | .ext _ => .ext
  | .ix2 _ => .ix2
  | .ix1 _ => .ix1
  | .ix => .ix

/-- The bytes of a memory operand, high byte first (30_encoding.md R62). -/
def AddrOperand.bytes : AddrOperand → List Byte
  | .dir dd => [dd]
  | .ext hhll => [highByte hhll, lowByte hhll]
  | .ix2 eeff => [highByte eeff, lowByte eeff]
  | .ix1 ff => [ff]
  | .ix => []

/-- The mode of a value-reading operand. -/
def ValueOperand.mode : ValueOperand → ValueMode
  | .imm _ => .imm
  | .mem o => .mem o.mode

/-- The bytes of a value-reading operand. -/
def ValueOperand.bytes : ValueOperand → List Byte
  | .imm ii => [ii]
  | .mem o => o.bytes

/-- The mode of a read-modify-write operand. -/
def RmwOperand.mode : RmwOperand → RmwMode
  | .acc => .acc
  | .index => .index
  | .dir _ => .dir
  | .ix1 _ => .ix1
  | .ix => .ix

/-- The bytes of a read-modify-write operand. -/
def RmwOperand.bytes : RmwOperand → List Byte
  | .acc => []
  | .index => []
  | .dir dd => [dd]
  | .ix1 ff => [ff]
  | .ix => []

/-! ### Filling an entry -/

theorem Entry.build_none_iff {opcode : Byte} {j i : Instr} {bytes rest : List Byte} :
    (Entry.none j).build opcode bytes = .ok (i, rest) ↔ i = j ∧ bytes = rest := by
  simp [Entry.build, eq_comm]

theorem Entry.build_one_iff {opcode : Byte} {mk : Byte → Instr} {i : Instr} {bytes rest : List Byte} :
    (Entry.one mk).build opcode bytes = .ok (i, rest) ↔ ∃ b, i = mk b ∧ bytes = b :: rest := by
  cases bytes <;> simp [Entry.build, eq_comm]

theorem Entry.build_two_iff {opcode : Byte} {mk : Byte → Byte → Instr} {i : Instr} {bytes rest : List Byte} :
    (Entry.two mk).build opcode bytes = .ok (i, rest) ↔ ∃ b c, i = mk b c ∧ bytes = b :: c :: rest := by
  rcases bytes with _ | ⟨b, _ | ⟨c, tail⟩⟩ <;> simp [Entry.build, eq_comm]

/-- A pair of bytes and the word they spell stand for each other. -/
theorem Entry.build_word_iff {opcode : Byte} {mk : BitVec 16 → Instr} {i : Instr} {bytes rest : List Byte} :
    (Entry.word mk).build opcode bytes = .ok (i, rest) ↔ ∃ v, i = mk v ∧ bytes = highByte v :: lowByte v :: rest := by
  constructor
  case mp =>
    intro h
    rcases bytes with _ | ⟨b, _ | ⟨c, tail⟩⟩ <;> simp only [Entry.build, reduceCtorEq, Except.ok.injEq, Prod.mk.injEq] at h
    obtain ⟨rfl, rfl⟩ := h
    exact ⟨joinBytes b c, rfl, by rw [highByte_joinBytes, lowByte_joinBytes]⟩
  case mpr =>
    rintro ⟨v, rfl, rfl⟩
    rw [Entry.build, joinBytes_high_low]

theorem AddrMode.build_iff {opcode : Byte} {mk : AddrOperand → Instr} {m : AddrMode} {i : Instr} {bytes rest : List Byte} :
    (m.entry mk).build opcode bytes = .ok (i, rest) ↔ ∃ o, o.mode = m ∧ i = mk o ∧ bytes = o.bytes ++ rest := by
  constructor
  case mp =>
    intro h
    cases m with
    | dir => obtain ⟨dd, hi, hb⟩ := Entry.build_one_iff.mp h; exact ⟨.dir dd, rfl, hi, hb⟩
    | ext => obtain ⟨hhll, hi, hb⟩ := Entry.build_word_iff.mp h; exact ⟨.ext hhll, rfl, hi, hb⟩
    | ix2 => obtain ⟨eeff, hi, hb⟩ := Entry.build_word_iff.mp h; exact ⟨.ix2 eeff, rfl, hi, hb⟩
    | ix1 => obtain ⟨ff, hi, hb⟩ := Entry.build_one_iff.mp h; exact ⟨.ix1 ff, rfl, hi, hb⟩
    | ix => obtain ⟨hi, hb⟩ := Entry.build_none_iff.mp h; exact ⟨.ix, rfl, hi, hb⟩
  case mpr =>
    rintro ⟨o, rfl, hi, hb⟩
    cases o with
    | dir dd => exact Entry.build_one_iff.mpr ⟨dd, hi, hb⟩
    | ext hhll => exact Entry.build_word_iff.mpr ⟨hhll, hi, hb⟩
    | ix2 eeff => exact Entry.build_word_iff.mpr ⟨eeff, hi, hb⟩
    | ix1 ff => exact Entry.build_one_iff.mpr ⟨ff, hi, hb⟩
    | ix => exact Entry.build_none_iff.mpr ⟨hi, hb⟩

theorem ValueMode.build_iff {opcode : Byte} {mk : ValueOperand → Instr} {m : ValueMode} {i : Instr} {bytes rest : List Byte} :
    (m.entry mk).build opcode bytes = .ok (i, rest) ↔ ∃ o, o.mode = m ∧ i = mk o ∧ bytes = o.bytes ++ rest := by
  constructor
  case mp =>
    intro h
    cases m with
    | imm => obtain ⟨ii, hi, hb⟩ := Entry.build_one_iff.mp h; exact ⟨.imm ii, rfl, hi, hb⟩
    | mem m =>
      obtain ⟨o, rfl, hi, hb⟩ := (AddrMode.build_iff (mk := fun o => mk (.mem o))).mp h
      exact ⟨.mem o, rfl, hi, hb⟩
  case mpr =>
    rintro ⟨o, rfl, hi, hb⟩
    cases o with
    | imm ii => exact Entry.build_one_iff.mpr ⟨ii, hi, hb⟩
    | mem o => exact (AddrMode.build_iff (mk := fun o => mk (.mem o))).mpr ⟨o, rfl, hi, hb⟩

theorem RmwMode.build_iff {opcode : Byte} {mk : RmwOperand → Instr} {m : RmwMode} {i : Instr} {bytes rest : List Byte} :
    (m.entry mk).build opcode bytes = .ok (i, rest) ↔ ∃ o, o.mode = m ∧ i = mk o ∧ bytes = o.bytes ++ rest := by
  constructor
  case mp =>
    intro h
    cases m with
    | acc => obtain ⟨hi, hb⟩ := Entry.build_none_iff.mp h; exact ⟨.acc, rfl, hi, hb⟩
    | index => obtain ⟨hi, hb⟩ := Entry.build_none_iff.mp h; exact ⟨.index, rfl, hi, hb⟩
    | dir => obtain ⟨dd, hi, hb⟩ := Entry.build_one_iff.mp h; exact ⟨.dir dd, rfl, hi, hb⟩
    | ix1 => obtain ⟨ff, hi, hb⟩ := Entry.build_one_iff.mp h; exact ⟨.ix1 ff, rfl, hi, hb⟩
    | ix => obtain ⟨hi, hb⟩ := Entry.build_none_iff.mp h; exact ⟨.ix, rfl, hi, hb⟩
  case mpr =>
    rintro ⟨o, rfl, hi, hb⟩
    cases o with
    | acc => exact Entry.build_none_iff.mpr ⟨hi, hb⟩
    | index => exact Entry.build_none_iff.mpr ⟨hi, hb⟩
    | dir dd => exact Entry.build_one_iff.mpr ⟨dd, hi, hb⟩
    | ix1 ff => exact Entry.build_one_iff.mpr ⟨ff, hi, hb⟩
    | ix => exact Entry.build_none_iff.mpr ⟨hi, hb⟩

/-- `stx` has a form for every mode of its own and none in IX (30_encoding.md R73). -/
theorem StxMode.build_iff {opcode : Byte} {m : StxMode} {i : Instr} {bytes rest : List Byte} :
    m.entry.build opcode bytes = .ok (i, rest) ↔
      ∃ o, Instr.ofStx o = some i ∧ i.descriptor = .stx m ∧ bytes = o.bytes ++ rest := by
  constructor
  case mp =>
    intro h
    cases m with
    | dir => obtain ⟨dd, rfl, hb⟩ := Entry.build_one_iff.mp h; exact ⟨.dir dd, rfl, rfl, hb⟩
    | ext => obtain ⟨hhll, rfl, hb⟩ := Entry.build_word_iff.mp h; exact ⟨.ext hhll, rfl, rfl, hb⟩
    | ix2 => obtain ⟨eeff, rfl, hb⟩ := Entry.build_word_iff.mp h; exact ⟨.ix2 eeff, rfl, rfl, hb⟩
    | ix1 => obtain ⟨ff, rfl, hb⟩ := Entry.build_one_iff.mp h; exact ⟨.ix1 ff, rfl, rfl, hb⟩
  case mpr =>
    rintro ⟨o, hi, hd, hb⟩
    cases o with
    | dir dd => cases hi; cases hd; exact Entry.build_one_iff.mpr ⟨dd, rfl, hb⟩
    | ext hhll => cases hi; cases hd; exact Entry.build_word_iff.mpr ⟨hhll, rfl, hb⟩
    | ix2 eeff => cases hi; cases hd; exact Entry.build_word_iff.mpr ⟨eeff, rfl, hb⟩
    | ix1 ff => cases hi; cases hd; exact Entry.build_one_iff.mpr ⟨ff, rfl, hb⟩
    | ix => cases hi

/-! ### The forms: descriptor, encoding, operand bytes -/

theorem descriptor_ofValue (op : ValueOp) (o : ValueOperand) : (Instr.ofValue op o).descriptor = .value op o.mode := by
  cases o with
  | imm ii => cases op <;> rfl
  | mem o => cases o <;> cases op <;> rfl

theorem descriptor_ofRmw (op : RmwOp) (o : RmwOperand) : (Instr.ofRmw op o).descriptor = .rmw op o.mode := by
  cases o <;> cases op <;> rfl

theorem descriptor_ofTst (o : RmwOperand) : (Instr.ofTst o).descriptor = .tst o.mode := by cases o <;> rfl

theorem descriptor_ofClr (o : RmwOperand) : (Instr.ofClr o).descriptor = .clr o.mode := by cases o <;> rfl

theorem descriptor_ofSta (o : AddrOperand) : (Instr.ofSta o).descriptor = .sta o.mode := by cases o <;> rfl

theorem descriptor_ofJmp (o : AddrOperand) : (Instr.ofJmp o).descriptor = .jmp o.mode := by cases o <;> rfl

theorem descriptor_ofJsr (o : AddrOperand) : (Instr.ofJsr o).descriptor = .jsr o.mode := by cases o <;> rfl

theorem descriptor_ofBranch (op : BranchOp) (rr : Byte) : (Instr.ofBranch op rr).descriptor = .branch op := by
  cases op <;> rfl

theorem descriptor_ofBset (n : Fin 8) (dd : Byte) : (Instr.ofBset n dd).descriptor = .bset := by fin_cases n <;> rfl

theorem descriptor_ofBclr (n : Fin 8) (dd : Byte) : (Instr.ofBclr n dd).descriptor = .bclr := by fin_cases n <;> rfl

theorem descriptor_ofBrset (n : Fin 8) (dd rr : Byte) : (Instr.ofBrset n dd rr).descriptor = .brset := by
  fin_cases n <;> rfl

theorem descriptor_ofBrclr (n : Fin 8) (dd rr : Byte) : (Instr.ofBrclr n dd rr).descriptor = .brclr := by
  fin_cases n <;> rfl

theorem encode_ofSta (o : AddrOperand) : encode (.ofSta o) = addrBytes 0x7 o := by cases o <;> rfl

theorem encode_ofStx {o : AddrOperand} {i : Instr} (h : Instr.ofStx o = some i) : encode i = addrBytes 0xF o := by
  cases o <;> cases h <;> rfl

theorem encode_ofJsr (o : AddrOperand) : encode (.ofJsr o) = addrBytes 0xD o := by cases o <;> rfl

theorem encode_ofBranch (op : BranchOp) (rr : Byte) : encode (.ofBranch op rr) = [mapByte 0x2 (branchNibble op), rr] := by
  cases op <;> rfl

theorem encode_ofBset (n : Fin 8) (dd : Byte) : encode (.ofBset n dd) = [BitVec.ofNat 8 (0x10 + 2 * n.val), dd] := by
  fin_cases n <;> rfl

theorem encode_ofBclr (n : Fin 8) (dd : Byte) : encode (.ofBclr n dd) = [BitVec.ofNat 8 (0x11 + 2 * n.val), dd] := by
  fin_cases n <;> rfl

theorem encode_ofBrset (n : Fin 8) (dd rr : Byte) : encode (.ofBrset n dd rr) = [BitVec.ofNat 8 (2 * n.val), dd, rr] := by
  fin_cases n <;> rfl

theorem encode_ofBrclr (n : Fin 8) (dd rr : Byte) :
    encode (.ofBrclr n dd rr) = [BitVec.ofNat 8 (1 + 2 * n.val), dd, rr] := by
  fin_cases n <;> rfl

/-- The opcode byte of an instruction in the default encoding. -/
def Instr.opcodeByte (i : Instr) : Byte := (encode i).headD 0

/-- The operand bytes of an instruction, the same under every table. -/
def Instr.operands (i : Instr) : List Byte := (encode i).tail

theorem Instr.encode_eq (i : Instr) : encode i = i.opcodeByte :: i.operands := by
  cases i <;> rfl

theorem operands_addrBytes (nibble : Nat) (o : AddrOperand) : (addrBytes nibble o).tail = o.bytes := by cases o <;> rfl

theorem operands_valueBytes (nibble : Nat) (o : ValueOperand) : (valueBytes nibble o).tail = o.bytes := by
  cases o with
  | imm ii => rfl
  | mem o => exact operands_addrBytes nibble o

theorem operands_rmwBytes (nibble : Nat) (o : RmwOperand) : (rmwBytes nibble o).tail = o.bytes := by cases o <;> rfl

theorem operands_ofValue (op : ValueOp) (o : ValueOperand) : (Instr.ofValue op o).operands = o.bytes := by
  rw [Instr.operands, encode_ofValue, operands_valueBytes]

theorem operands_ofRmw (op : RmwOp) (o : RmwOperand) : (Instr.ofRmw op o).operands = o.bytes := by
  rw [Instr.operands, encode_ofRmw, operands_rmwBytes]

theorem operands_ofTst (o : RmwOperand) : (Instr.ofTst o).operands = o.bytes := by
  rw [Instr.operands, encode_ofTst, operands_rmwBytes]

theorem operands_ofClr (o : RmwOperand) : (Instr.ofClr o).operands = o.bytes := by
  rw [Instr.operands, encode_ofClr, operands_rmwBytes]

theorem operands_ofSta (o : AddrOperand) : (Instr.ofSta o).operands = o.bytes := by
  rw [Instr.operands, encode_ofSta, operands_addrBytes]

theorem operands_ofStx {o : AddrOperand} {i : Instr} (h : Instr.ofStx o = some i) : i.operands = o.bytes := by
  rw [Instr.operands, encode_ofStx h, operands_addrBytes]

theorem operands_ofJmp (o : AddrOperand) : (Instr.ofJmp o).operands = o.bytes := by
  rw [Instr.operands, encode_ofJmp, operands_addrBytes]

theorem operands_ofJsr (o : AddrOperand) : (Instr.ofJsr o).operands = o.bytes := by
  rw [Instr.operands, encode_ofJsr, operands_addrBytes]

theorem operands_ofBranch (op : BranchOp) (rr : Byte) : (Instr.ofBranch op rr).operands = [rr] := by
  rw [Instr.operands, encode_ofBranch, List.tail_cons]

theorem operands_ofBset (n : Fin 8) (dd : Byte) : (Instr.ofBset n dd).operands = [dd] := by
  rw [Instr.operands, encode_ofBset, List.tail_cons]

theorem operands_ofBclr (n : Fin 8) (dd : Byte) : (Instr.ofBclr n dd).operands = [dd] := by
  rw [Instr.operands, encode_ofBclr, List.tail_cons]

theorem operands_ofBrset (n : Fin 8) (dd rr : Byte) : (Instr.ofBrset n dd rr).operands = [dd, rr] := by
  rw [Instr.operands, encode_ofBrset, List.tail_cons]

theorem operands_ofBrclr (n : Fin 8) (dd rr : Byte) : (Instr.ofBrclr n dd rr).operands = [dd, rr] := by
  rw [Instr.operands, encode_ofBrclr, List.tail_cons]

end Sys2Proof
end

section
/-! Proofs about the decoder under any table (30_encoding.md R64): the bit number in the opcode byte, and the exact byte lists a table
reads as an instruction. -/

namespace Sys2Proof

open Sys2Proof.Machine

/-! ### The bit number in the opcode byte (30_encoding.md R64 (c)) -/

/-- The opcode byte `opcode` carries the bit number of `i`, where `i` has one. -/
def SameBitNumber (i : Instr) (opcode : Byte) : Prop :=
  i.descriptor.hasBitNumber = true → bitNumber opcode = bitNumber i.opcodeByte

theorem bitNumber_ofBset (n : Fin 8) (dd : Byte) : bitNumber (Instr.ofBset n dd).opcodeByte = n := by
  obtain ⟨-, -, h, -⟩ := bitNumber_default n
  rw [Instr.opcodeByte, encode_ofBset, List.headD_cons, h]

theorem bitNumber_ofBclr (n : Fin 8) (dd : Byte) : bitNumber (Instr.ofBclr n dd).opcodeByte = n := by
  obtain ⟨-, -, -, h⟩ := bitNumber_default n
  rw [Instr.opcodeByte, encode_ofBclr, List.headD_cons, h]

theorem bitNumber_ofBrset (n : Fin 8) (dd rr : Byte) : bitNumber (Instr.ofBrset n dd rr).opcodeByte = n := by
  obtain ⟨h, -, -, -⟩ := bitNumber_default n
  rw [Instr.opcodeByte, encode_ofBrset, List.headD_cons, h]

theorem bitNumber_ofBrclr (n : Fin 8) (dd rr : Byte) : bitNumber (Instr.ofBrclr n dd rr).opcodeByte = n := by
  obtain ⟨-, h, -, -⟩ := bitNumber_default n
  rw [Instr.opcodeByte, encode_ofBrclr, List.headD_cons, h]

theorem Descriptor.hasBitNumber_iff (d : Descriptor) :
    d.hasBitNumber = true ↔ d = .bset ∨ d = .bclr ∨ d = .brset ∨ d = .brclr := by
  have addr (m : AddrMode) : (m.format == .bsc || m.format == .btb) = false := by cases m <;> rfl
  have rmw (m : RmwMode) : (m.format == .bsc || m.format == .btb) = false := by cases m <;> rfl
  cases d with
  | value op m =>
    cases m with
    | imm => simp [Descriptor.hasBitNumber, Descriptor.format, ValueMode.format]
    | mem m => simp [Descriptor.hasBitNumber, Descriptor.format, ValueMode.format, addr m]
  | rmw op m => simp [Descriptor.hasBitNumber, Descriptor.format, rmw m]
  | tst m => simp [Descriptor.hasBitNumber, Descriptor.format, rmw m]
  | clr m => simp [Descriptor.hasBitNumber, Descriptor.format, rmw m]
  | sta m => simp [Descriptor.hasBitNumber, Descriptor.format, addr m]
  | stx m => cases m <;> simp [Descriptor.hasBitNumber, Descriptor.format, StxMode.format]
  | jmp m => simp [Descriptor.hasBitNumber, Descriptor.format, addr m]
  | jsr m => simp [Descriptor.hasBitNumber, Descriptor.format, addr m]
  | _ => simp [Descriptor.hasBitNumber, Descriptor.format]

/-- An instruction without a bit number asks nothing of the opcode byte. -/
theorem sameBitNumber_of_no_bit {i : Instr} {d : Descriptor} (opcode : Byte) (hd : i.descriptor = d)
    (hbit : ¬ (d = .bset ∨ d = .bclr ∨ d = .brset ∨ d = .brclr)) : SameBitNumber i opcode := by
  intro h
  rw [hd, Descriptor.hasBitNumber_iff] at h
  exact absurd h hbit

/-! ### What a table reads -/

/-- The entry of a form without a bit number reads exactly the operand bytes of the form. -/
theorem reads_of_no_bit {i : Instr} {d : Descriptor} {bytes : List Byte} (opcode : Byte) (rest : List Byte)
    (hd : i.descriptor = d) (hbytes : i.operands = bytes) (hbit : ¬ (d = .bset ∨ d = .bclr ∨ d = .brset ∨ d = .brclr)) :
    i.descriptor = d ∧ SameBitNumber i opcode ∧ bytes ++ rest = i.operands ++ rest :=
  ⟨hd, sameBitNumber_of_no_bit opcode hd hbit, by rw [hbytes]⟩

/-- What filling the entry of a descriptor can give: an instruction of that descriptor, with the bit number of the opcode byte, whose
operand bytes come first. -/
theorem Descriptor.of_build {d : Descriptor} {opcode : Byte} {i : Instr} {bytes rest : List Byte}
    (h : (d.entry opcode).build opcode bytes = .ok (i, rest)) :
    i.descriptor = d ∧ SameBitNumber i opcode ∧ bytes = i.operands ++ rest := by
  cases d with
  | value op m =>
    obtain ⟨o, rfl, rfl, rfl⟩ := ValueMode.build_iff.mp h
    exact reads_of_no_bit opcode rest (descriptor_ofValue op o) (operands_ofValue op o) (by simp)
  | rmw op m =>
    obtain ⟨o, rfl, rfl, rfl⟩ := RmwMode.build_iff.mp h
    exact reads_of_no_bit opcode rest (descriptor_ofRmw op o) (operands_ofRmw op o) (by simp)
  | tst m =>
    obtain ⟨o, rfl, rfl, rfl⟩ := RmwMode.build_iff.mp h
    exact reads_of_no_bit opcode rest (descriptor_ofTst o) (operands_ofTst o) (by simp)
  | clr m =>
    obtain ⟨o, rfl, rfl, rfl⟩ := RmwMode.build_iff.mp h
    exact reads_of_no_bit opcode rest (descriptor_ofClr o) (operands_ofClr o) (by simp)
  | sta m =>
    obtain ⟨o, rfl, rfl, rfl⟩ := AddrMode.build_iff.mp h
    exact reads_of_no_bit opcode rest (descriptor_ofSta o) (operands_ofSta o) (by simp)
  | stx m =>
    obtain ⟨o, hi, hd, rfl⟩ := StxMode.build_iff.mp h
    exact reads_of_no_bit opcode rest hd (operands_ofStx hi) (by simp)
  | jmp m =>
    obtain ⟨o, rfl, rfl, rfl⟩ := AddrMode.build_iff.mp h
    exact reads_of_no_bit opcode rest (descriptor_ofJmp o) (operands_ofJmp o) (by simp)
  | jsr m =>
    obtain ⟨o, rfl, rfl, rfl⟩ := AddrMode.build_iff.mp h
    exact reads_of_no_bit opcode rest (descriptor_ofJsr o) (operands_ofJsr o) (by simp)
  | branch op =>
    obtain ⟨rr, rfl, rfl⟩ := Entry.build_one_iff.mp h
    exact reads_of_no_bit opcode rest (descriptor_ofBranch op rr) (operands_ofBranch op rr) (by simp)
  | bsr =>
    obtain ⟨rr, rfl, rfl⟩ := Entry.build_one_iff.mp h
    exact reads_of_no_bit (i := .bsr rr) (d := .bsr) opcode rest rfl rfl (by simp)
  | bset =>
    obtain ⟨dd, rfl, rfl⟩ := Entry.build_one_iff.mp h
    exact ⟨descriptor_ofBset _ dd, fun _ => (bitNumber_ofBset _ dd).symm, by rw [operands_ofBset]; rfl⟩
  | bclr =>
    obtain ⟨dd, rfl, rfl⟩ := Entry.build_one_iff.mp h
    exact ⟨descriptor_ofBclr _ dd, fun _ => (bitNumber_ofBclr _ dd).symm, by rw [operands_ofBclr]; rfl⟩
  | brset =>
    obtain ⟨dd, rr, rfl, rfl⟩ := Entry.build_two_iff.mp h
    exact ⟨descriptor_ofBrset _ dd rr, fun _ => (bitNumber_ofBrset _ dd rr).symm, by rw [operands_ofBrset]; rfl⟩
  | brclr =>
    obtain ⟨dd, rr, rfl, rfl⟩ := Entry.build_two_iff.mp h
    exact ⟨descriptor_ofBrclr _ dd rr, fun _ => (bitNumber_ofBrclr _ dd rr).symm, by rw [operands_ofBrclr]; rfl⟩
  | inherent op =>
    obtain ⟨rfl, rfl⟩ := Entry.build_none_iff.mp h
    have hd : op.instr.descriptor = .inherent op := by cases op <;> rfl
    have hbytes : op.instr.operands = [] := by cases op <;> rfl
    exact reads_of_no_bit opcode bytes hd hbytes (by simp)

/-- Filling the entry of an instruction's descriptor from its operand bytes gives the instruction, behind any opcode byte that carries
its bit number. -/
theorem Instr.build_operands (i : Instr) {opcode : Byte} (rest : List Byte) (hbit : SameBitNumber i opcode) :
    (i.descriptor.entry opcode).build opcode (i.operands ++ rest) = .ok (i, rest) := by
  induction i using Instr.byForm with
  | value op o =>
    rw [descriptor_ofValue, operands_ofValue]
    exact ValueMode.build_iff.mpr ⟨o, rfl, rfl, rfl⟩
  | rmw op o =>
    rw [descriptor_ofRmw, operands_ofRmw]
    exact RmwMode.build_iff.mpr ⟨o, rfl, rfl, rfl⟩
  | tst o =>
    rw [descriptor_ofTst, operands_ofTst]
    exact RmwMode.build_iff.mpr ⟨o, rfl, rfl, rfl⟩
  | clr o =>
    rw [descriptor_ofClr, operands_ofClr]
    exact RmwMode.build_iff.mpr ⟨o, rfl, rfl, rfl⟩
  | sta o =>
    rw [descriptor_ofSta, operands_ofSta]
    exact AddrMode.build_iff.mpr ⟨o, rfl, rfl, rfl⟩
  | stx o i hi =>
    obtain ⟨m, hd⟩ : ∃ m, i.descriptor = .stx m := by cases o <;> cases hi <;> exact ⟨_, rfl⟩
    rw [hd, operands_ofStx hi]
    exact StxMode.build_iff.mpr ⟨o, hi, hd, rfl⟩
  | jmp o =>
    rw [descriptor_ofJmp, operands_ofJmp]
    exact AddrMode.build_iff.mpr ⟨o, rfl, rfl, rfl⟩
  | jsr o =>
    rw [descriptor_ofJsr, operands_ofJsr]
    exact AddrMode.build_iff.mpr ⟨o, rfl, rfl, rfl⟩
  | branch op rr =>
    rw [descriptor_ofBranch, operands_ofBranch]
    rfl
  | bset n dd =>
    rw [SameBitNumber, descriptor_ofBset, bitNumber_ofBset] at hbit
    rw [descriptor_ofBset, operands_ofBset]
    exact Entry.build_one_iff.mpr ⟨dd, by rw [hbit rfl], rfl⟩
  | bclr n dd =>
    rw [SameBitNumber, descriptor_ofBclr, bitNumber_ofBclr] at hbit
    rw [descriptor_ofBclr, operands_ofBclr]
    exact Entry.build_one_iff.mpr ⟨dd, by rw [hbit rfl], rfl⟩
  | brset n dd rr =>
    rw [SameBitNumber, descriptor_ofBrset, bitNumber_ofBrset] at hbit
    rw [descriptor_ofBrset, operands_ofBrset]
    exact Entry.build_two_iff.mpr ⟨dd, rr, by rw [hbit rfl], rfl⟩
  | brclr n dd rr =>
    rw [SameBitNumber, descriptor_ofBrclr, bitNumber_ofBrclr] at hbit
    rw [descriptor_ofBrclr, operands_ofBrclr]
    exact Entry.build_two_iff.mpr ⟨dd, rr, by rw [hbit rfl], rfl⟩
  | bsr rr => rfl
  | _ => rfl

/-- The byte lists a table reads as `i`: an opcode byte it assigns to `i`, the operand bytes of `i`, and whatever follows. -/
theorem decode_eq_ok_iff {t : OpTable} {bytes rest : List Byte} {i : Instr} :
    decode t bytes = .ok (i, rest) ↔ ∃ opcode, AssignedTo t i opcode ∧ bytes = opcode :: i.operands ++ rest := by
  constructor
  case mp =>
    intro h
    cases bytes with
    | nil => cases h
    | cons opcode bytes =>
      rw [decode_cons] at h
      cases hd : t.lookup opcode with
      | none => rw [hd] at h; cases h
      | some d =>
        rw [hd] at h
        obtain ⟨rfl, hbit, rfl⟩ := Descriptor.of_build h
        exact ⟨opcode, ⟨hd, hbit⟩, rfl⟩
  case mpr =>
    rintro ⟨opcode, ⟨hd, hbit⟩, rfl⟩
    rw [List.cons_append, decode_cons, hd]
    exact i.build_operands rest hbit

end Sys2Proof
end

section
/-! Proofs about the default table (30_encoding.md R65): the byte at which a descriptor stands, so that the table assigns one opcode
byte to each instruction; the two round trips, the sample words and the illegal bytes. -/

namespace Sys2Proof

open Sys2Proof.Machine

/-! ### The default table and its inverse -/

/-- The column of a memory mode in the rows of the instructions with a memory operand (30_encoding.md R65). -/
def AddrMode.column : AddrMode → Nat
  | .dir => 0xB
  | .ext => 0xC
  | .ix2 => 0xD
  | .ix1 => 0xE
  | .ix => 0xF

/-- The column of a value-reading mode: IMM stands before the memory modes. -/
def ValueMode.column : ValueMode → Nat
  | .imm => 0xA
  | .mem m => m.column

/-- The column of a read-modify-write mode. -/
def RmwMode.column : RmwMode → Nat
  | .dir => 0x3
  | .acc => 0x4
  | .index => 0x5
  | .ix1 => 0x6
  | .ix => 0x7

/-- The column of a mode of `stx`. -/
def StxMode.column : StxMode → Nat
  | .dir => 0xB
  | .ext => 0xC
  | .ix2 => 0xD
  | .ix1 => 0xE

/-- The byte of the default opcode map at which a descriptor stands, for the bit number `n` where it has one. -/
def Descriptor.defaultByte (n : Fin 8) : Descriptor → Byte
  | .value op m => mapByte m.column (valueNibble op)
  | .rmw op m => mapByte m.column (rmwNibble op)
  | .tst m => mapByte m.column 0xD
  | .clr m => mapByte m.column 0xF
  | .sta m => mapByte m.column 0x7
  | .stx m => mapByte m.column 0xF
  | .jmp m => mapByte m.column 0xC
  | .jsr m => mapByte m.column 0xD
  | .branch op => mapByte 0x2 (branchNibble op)
  | .bsr => 0xAD
  | .bset => BitVec.ofNat 8 (0x10 + 2 * n.val)
  | .bclr => BitVec.ofNat 8 (0x11 + 2 * n.val)
  | .brset => BitVec.ofNat 8 (2 * n.val)
  | .brclr => BitVec.ofNat 8 (1 + 2 * n.val)
  | .inherent op => op.instr.opcodeByte

/-- Only the bit forms stand at more than one byte. -/
theorem Descriptor.defaultByte_of_no_bit {d : Descriptor} (h : d.hasBitNumber = false) (n k : Fin 8) :
    d.defaultByte n = d.defaultByte k := by
  cases d with
  | bset => cases h
  | bclr => cases h
  | brset => cases h
  | brclr => cases h
  | _ => rfl

/-- No two bytes of the default opcode map hold the same descriptor with the same bit number. -/
theorem defaultByte_of_lookup : ∀ opcode : Byte, ∀ d ∈ defaultOptab.lookup opcode,
    d.defaultByte (bitNumber opcode) = opcode := by decide

theorem Instr.lookup_opcodeByte (i : Instr) : defaultOptab.lookup i.opcodeByte = some i.descriptor := by
  have hshape : (encode i).head?.bind defaultOptab.lookup = some i.descriptor := by cases i <;> rfl
  rwa [i.encode_eq, List.head?_cons, Option.bind_some] at hshape

/-- The default table assigns exactly one opcode byte to an instruction, that of its encoding. -/
theorem assignedTo_defaultOptab_iff {i : Instr} {opcode : Byte} :
    AssignedTo defaultOptab i opcode ↔ opcode = i.opcodeByte := by
  have hown := defaultByte_of_lookup i.opcodeByte i.descriptor i.lookup_opcodeByte
  constructor
  case mp =>
    rintro ⟨hd, hbit⟩
    have hthis := defaultByte_of_lookup opcode i.descriptor hd
    rw [← hthis, ← hown]
    cases hb : i.descriptor.hasBitNumber with
    | true => exact congrArg (fun n => i.descriptor.defaultByte n) (hbit hb)
    | false => exact Descriptor.defaultByte_of_no_bit hb _ _
  case mpr =>
    rintro rfl
    exact ⟨i.lookup_opcodeByte, fun _ => rfl⟩

/-- The byte lists the default table reads as `i`. -/
theorem decode_defaultOptab_eq_ok_iff {bytes rest : List Byte} {i : Instr} :
    decode defaultOptab bytes = .ok (i, rest) ↔ bytes = encode i ++ rest := by
  simp only [decode_eq_ok_iff, assignedTo_defaultOptab_iff, exists_eq_left, i.encode_eq]

/-! ### The obligations -/

/-- Settles O3: the bytes in question are among those the table reads as the instruction. -/
theorem decodeEncodeRoundTrip : Obligations.DecodeEncodeRoundTrip := by
  intro i rest _
  exact ⟨decode_defaultOptab_eq_ok_iff.mpr rfl, fun t opcode h => decode_eq_ok_iff.mpr ⟨opcode, h, rfl⟩⟩

/-- Settles O4: a table reads nothing else as the instruction. -/
theorem encodeDecodeRoundTrip : Obligations.EncodeDecodeRoundTrip := by
  intro bytes rest i
  refine ⟨fun h => (decode_defaultOptab_eq_ok_iff.mp h).symm, fun t h => ?anyTable⟩
  case anyTable =>
    obtain ⟨opcode, hassigned, hbytes⟩ := decode_eq_ok_iff.mp h
    exact ⟨opcode, hassigned, hbytes.symm⟩

/-- Settles O2: each sample word is the encoding of its instruction; the two bytes that every table must fix are looked up. -/
theorem sampleWordsDecode : Obligations.SampleWordsDecode := by
  have word (i : Instr) : decode defaultOptab (encode i) = .ok (i, []) :=
    decode_defaultOptab_eq_ok_iff.mpr (List.append_nil _).symm
  refine ⟨?words, fun c ii rest hwf => ?anyTable⟩
  case words =>
    exact ⟨word (.addImm 0x05), word .mul, word (.andDir 0x80), word .eorIx, word .coma, word (.negIx1 0x10),
      word (.asrDir 0x80), word .rorx, word (.ldaExt 0x1234), word (.staIx2 0x1234), word (.ldaIx1 0x10), word .tax,
      word .clrIx, word (.decDir 0x80), word (.cpxImm 0x05), word .tsta, word (.bset3 0x80), word (.brclr0 0x80 0xFB),
      word (.bne 0xF9), word (.bsr 0x10), word .jsrIx, word .swi, word .sei, word .stop⟩
  case anyTable =>
    obtain ⟨-, -, -, -, htable⟩ := Config.wf_iff.mp hwf
    obtain ⟨-, hsub, habsent⟩ := Config.optabOk_iff.mp htable
    exact ⟨by rw [decode_cons, hsub]; rfl, by rw [decode_cons, habsent]⟩

/-- Settles O5, by looking up each of the 256 opcode bytes. -/
theorem illegalOpcodesAreTheListed : Obligations.IllegalOpcodesAreTheListed :=
  ⟨rfl, by decide⟩

end Sys2Proof
end

section
/-! Proofs about `adc` and `sbc` (41_arithmetic.md R101, R103): the old `C` as a third term of the sum and of the difference. -/

namespace Sys2Proof.Machine

/-! ### Numbers -/

theorem bitNat_eq_toNat (b : Bool) : bitNat b = b.toNat := by cases b <;> rfl

/-- Masking an integer to a byte takes its remainder modulo 256. -/
theorem ofInt_byte_toNat (z : Int) : ((BitVec.ofInt 8 z).toNat : Int) = z % 256 := by
  have hmask : (BitVec.ofInt 8 z).toNat = (z % 256).toNat := BitVec.toNat_ofInt z
  rw [hmask, Int.toNat_of_nonneg (Int.emod_nonneg _ (by decide))]

/-! ### The handlers, in numbers -/

theorem adcHandler_a_toNat (m : Byte) (s : State) :
    (adcHandler m s).a.toNat = (s.a.toNat + m.toNat + s.flagC.toNat) % 256 := by
  rw [← bitNat_eq_toNat]
  exact BitVec.toNat_ofNat _ _

theorem adcHandler_flagC_iff (m : Byte) (s : State) :
    (adcHandler m s).flagC = true ↔ 255 < s.a.toNat + m.toNat + s.flagC.toNat := by
  rw [← bitNat_eq_toNat]
  exact decide_eq_true_iff

theorem adcHandler_flagH_iff (m : Byte) (s : State) :
    (adcHandler m s).flagH = true ↔ 0x0F < s.a.toNat % 16 + m.toNat % 16 + s.flagC.toNat := by
  rw [← bitNat_eq_toNat]
  exact decide_eq_true_iff

theorem sbcHandler_a_toNat (m : Byte) (s : State) :
    ((sbcHandler m s).a.toNat : Int) = ((s.a.toNat : Int) - (m.toNat : Int) - (s.flagC.toNat : Int)) % 256 := by
  rw [← bitNat_eq_toNat]
  exact ofInt_byte_toNat _

theorem sbcHandler_flagC_iff (m : Byte) (s : State) :
    (sbcHandler m s).flagC = true ↔ s.a.toNat < m.toNat + s.flagC.toNat := by
  rw [← bitNat_eq_toNat]
  exact decide_eq_true_iff

/-! ### The obligations -/

/-- Settles O23: every form runs `adcHandler` on its operand, which writes `a` and the flags but `I`, and then moves `pc`. -/
theorem adcResult : Obligations.AdcResult := by
  intro o s
  refine ⟨encode_ofValue .adc o, _, exec_ofValue_eq_next .adc o s, rfl, ?memory, rfl, ?a, ?C, ?H, ?NZ⟩
  case memory => exact memRead_congr rfl rfl
  case a => exact adcHandler_a_toNat (readValue o s) s
  case C => exact adcHandler_flagC_iff (readValue o s) s
  case H => exact adcHandler_flagH_iff (readValue o s) s
  case NZ => exact hasNZ_of_flags rfl rfl

/-- Settles O25: every form runs `sbcHandler` on its operand, which writes `a`, `N`, `Z` and the borrow but not `H`, and then
moves `pc`. -/
theorem sbcResult : Obligations.SbcResult := by
  intro o s
  refine ⟨encode_ofValue .sbc o, _, exec_ofValue_eq_next .sbc o s, rfl, ?memory, rfl, ?a, ?C, ?NZ⟩
  case memory => exact memRead_congr rfl rfl
  case a => exact sbcHandler_a_toNat (readValue o s) s
  case C => exact sbcHandler_flagC_iff (readValue o s) s
  case NZ => exact hasNZ_of_flags rfl rfl

end Sys2Proof.Machine
end

section
/-! Proofs about `and`, `ora` and `eor` (42_logic.md R110 to R112): `a`, `N` and `Z`, and no other flag. -/

namespace Sys2Proof.Machine

/-- Settles O27: every form runs its mnemonic's handler on its operand, which writes the bitwise result to `a` and `N`, `Z` of it. -/
theorem logicResult : Obligations.LogicResult := by
  intro o s
  refine ⟨?and, ?ora, ?eor⟩
  case and =>
    exact ⟨encode_ofValue .and o, _, exec_ofValue_eq_next .and o s, rfl, memRead_congr rfl rfl, rfl, hasNZ_of_flags rfl rfl⟩
  case ora =>
    exact ⟨encode_ofValue .ora o, _, exec_ofValue_eq_next .ora o s, rfl, memRead_congr rfl rfl, rfl, hasNZ_of_flags rfl rfl⟩
  case eor =>
    exact ⟨encode_ofValue .eor o, _, exec_ofValue_eq_next .eor o s, rfl, memRead_congr rfl rfl, rfl, hasNZ_of_flags rfl rfl⟩

end Sys2Proof.Machine
end

section
/-! Proofs about `cmp` and `cpx` (46_incdec_compare_test.md R171 to R173): the difference that sets `N` and `Z`, and `C` under both
values of the switch `CMP_UPDATES_C`. -/

namespace Sys2Proof.Machine

/-- The difference of which a comparison sets `N` and `Z`. -/
def difference (v m : Byte) : Byte := BitVec.ofInt 8 ((v.toNat : Int) - (m.toNat : Int))

theorem difference_toNat (v m : Byte) : ((difference v m).toNat : Int) = ((v.toNat : Int) - (m.toNat : Int)) % 256 :=
  ofInt_byte_toNat _

/-- A comparison writes `N`, `Z` and `C` alone. -/
theorem compareWith_eq (v m : Byte) (s : State) : compareWith v m s = { s with
    flagN := (difference v m).getLsbD 7
    flagZ := difference v m == 0
    flagC := if s.cfg.cmpUpdatesC then subBorrow v m false else s.flagC } := rfl

theorem compareWith_flagC_kept {s : State} (v m : Byte) (h : s.cfg.cmpUpdatesC = false) :
    (compareWith v m s).flagC = s.flagC := by
  simp [compareWith_eq, h]

theorem compareWith_flagC_iff {s : State} (v m : Byte) (h : s.cfg.cmpUpdatesC = true) :
    (compareWith v m s).flagC = true ↔ v.toNat < m.toNat := by
  simp [compareWith_eq, h, subBorrow, bitNat]

/-- Settles O37: every form compares the register with its operand, and `compareWith` writes three flags only. -/
theorem compareResult : Obligations.CompareResult := by
  intro o s
  refine ⟨?cmp, ?cpx⟩
  case cmp =>
    exact ⟨encode_ofValue .cmp o, _, difference s.a (readValue o s), exec_ofValue_eq_next .cmp o s, rfl,
      memRead_congr rfl rfl, rfl, difference_toNat _ _, hasNZ_of_flags rfl rfl,
      compareWith_flagC_kept s.a (readValue o s), compareWith_flagC_iff s.a (readValue o s)⟩
  case cpx =>
    exact ⟨encode_ofValue .cpx o, _, difference s.x (readValue o s), exec_ofValue_eq_next .cpx o s, rfl,
      memRead_congr rfl rfl, rfl, difference_toNat _ _, hasNZ_of_flags rfl rfl,
      compareWith_flagC_kept s.x (readValue o s), compareWith_flagC_iff s.x (readValue o s)⟩

end Sys2Proof.Machine
end

section
/-! Proofs about the inherent instructions `mul`, `tax`, `txa`, `wait` and `stop` (41_arithmetic.md R104, 45_data_movement.md R154,
R155, 49_subroutine_interrupt_control.md R221, R222). -/

namespace Sys2Proof.Machine

/-! ### The next states -/

theorem exec_mul_eq_next (s : State) :
    exec .mul s = .next { s with a := BitVec.ofNat 8 (s.a.toNat * s.x.toNat), pc := s.pc + 1 } :=
  advance_inh_eq s (mulHandler s)

theorem exec_tax_eq_next (s : State) :
    exec .tax s = .next { s with x := s.a, flagN := s.a.getLsbD 7, flagZ := s.a == 0, pc := s.pc + 1 } :=
  advance_inh_eq s { s.withNZ s.a with x := s.a }

theorem exec_txa_eq_next (s : State) :
    exec .txa s = .next { s with a := s.x, flagN := s.x.getLsbD 7, flagZ := s.x == 0, pc := s.pc + 1 } :=
  advance_inh_eq s { s.withNZ s.x with a := s.x }

theorem exec_wait_eq_next (s : State) : exec .wait s = .next { s with pc := s.pc + 1 } :=
  advance_inh_eq s s

theorem exec_stop_eq_next (s : State) : exec .stop s = .next { s with pc := s.pc + 1 } :=
  advance_inh_eq s s

/-! ### The obligations -/

/-- Settles O26: the product is masked to its low byte, which goes to `a`; `x` and the flags are no part of what changes. -/
theorem mulResult : Obligations.MulResult := by
  intro s
  exact ⟨rfl, _, exec_mul_eq_next s, rfl, memRead_congr rfl rfl, BitVec.toNat_ofNat _ _⟩

/-- Settles O35: either transfer writes the one register, `N`, `Z` and `pc`. -/
theorem transferResult : Obligations.TransferResult := by
  intro s
  exact ⟨rfl, rfl, ⟨_, exec_tax_eq_next s, rfl, memRead_congr rfl rfl, hasNZ_of_flags rfl rfl⟩,
    ⟨_, exec_txa_eq_next s, rfl, memRead_congr rfl rfl, hasNZ_of_flags rfl rfl⟩⟩

/-- Settles O50: both encode as one opcode byte, and the step over it is all that either does. -/
theorem waitStopResult : Obligations.WaitStopResult :=
  ⟨rfl, rfl, fun s => ⟨exec_wait_eq_next s, exec_stop_eq_next s⟩⟩

end Sys2Proof.Machine
end

section
/-! Proofs about `neg`, `rol`, `ror`, `inc` and `dec` (43_complement_negate.md R124 to R126, 44_shift_rotate.md R131,
46_incdec_compare_test.md R164): the bytes the handlers answer and the carries they leave, under both values of each switch. -/

namespace Sys2Proof.Machine

/-! ### `neg` -/

/-- The two's complement, with 0 its own. -/
theorem negHandler_fst_toNat (v : Byte) (s : State) : (negHandler v s).1.toNat = (256 - v.toNat) % 256 := by
  have hmask : ((negHandler v s).1.toNat : Int) = (0 - (v.toNat : Int)) % 256 := ofInt_byte_toNat _
  omega

theorem negHandler_flagC_borrow {s : State} (v : Byte) (h : s.cfg.negCarryRule = .borrow) :
    (negHandler v s).2.flagC = true ↔ v.toNat ≠ 0 := by
  simp [negHandler, h, negCarry, ← BitVec.toNat_inj]

theorem negHandler_flagC_additive {s : State} (v : Byte) (h : s.cfg.negCarryRule = .additive) :
    (negHandler v s).2.flagC = true ↔ v.toNat = 0 := by
  simp [negHandler, h, negCarry, ← BitVec.toNat_inj]

/-! ### `rol` and `ror` -/

theorem getLsbD_seven_toNat (v : Byte) : (v.getLsbD 7).toNat = v.toNat / 128 := by
  have hbit : (v.getLsbD 7).toNat = v.toNat / 2 ^ 7 % 2 := Nat.toNat_testBit _ _
  omega

theorem getLsbD_zero_toNat (v : Byte) : (v.getLsbD 0).toNat = v.toNat % 2 := by
  have hbit : (v.getLsbD 0).toNat = v.toNat / 2 ^ 0 % 2 := Nat.toNat_testBit _ _
  omega

/-- The byte shifted left has bit 0 vacated, so the bit that enters adds up with it. -/
theorem rolHandler_fst_toNat (v : Byte) (s : State) :
    (rolHandler v s).1.toNat = (2 * v.toNat) % 256 + (rotateIn (v.getLsbD 7) s).toNat := by
  have hparts : (rolHandler v s).1.toNat = (v <<< 1).toNat ||| (BitVec.ofNat 8 (bitNat (rotateIn (v.getLsbD 7) s))).toNat :=
    BitVec.toNat_or _ _
  have hshift : (v <<< 1).toNat = 2 ^ 1 * (v.toNat % 128) := by
    rw [show (v <<< 1).toNat = (2 * v.toNat) % 256 from lslHandler_fst_toNat v s]
    omega
  have hin (b : Bool) : (BitVec.ofNat 8 (bitNat b)).toNat = b.toNat := by cases b <;> rfl
  rw [hparts, hshift, hin, ← Nat.two_pow_add_eq_or_of_lt (Bool.toNat_lt _)]
  omega

/-- The byte shifted right has bit 7 vacated, so the bit that enters adds up with it. -/
theorem rorHandler_fst_toNat (v : Byte) (s : State) :
    (rorHandler v s).1.toNat = v.toNat / 2 + 128 * (rotateIn (v.getLsbD 0) s).toNat := by
  have hparts : (rorHandler v s).1.toNat =
      (v >>> 1).toNat ||| (BitVec.ofNat 8 (bitNat (rotateIn (v.getLsbD 0) s)) <<< 7).toNat := BitVec.toNat_or _ _
  have hin (b : Bool) : (BitVec.ofNat 8 (bitNat b) <<< 7).toNat = 2 ^ 7 * b.toNat := by cases b <;> rfl
  have hhalf : v.toNat / 2 < 2 ^ 7 := by omega
  rw [hparts, ushiftRight_one_toNat, hin, Nat.or_comm, ← Nat.two_pow_add_eq_or_of_lt hhalf, Nat.add_comm]

theorem rotateIn_circular {s : State} (b : Bool) (h : s.cfg.rotateThroughCarry = false) : rotateIn b s = b := by
  simp [rotateIn, h]

theorem rotateIn_through_carry {s : State} (b : Bool) (h : s.cfg.rotateThroughCarry = true) : rotateIn b s = s.flagC := by
  simp [rotateIn, h]

/-! ### `inc` and `dec` -/

theorem incHandler_fst_toNat (v : Byte) (s : State) : (incHandler v s).1.toNat = (v.toNat + 1) % 256 :=
  BitVec.toNat_ofNat _ _

theorem decHandler_fst_toNat (v : Byte) (s : State) : (decHandler v s).1.toNat = (v.toNat + 255) % 256 := by
  have hmask : ((decHandler v s).1.toNat : Int) = ((v.toNat : Int) - 1) % 256 := ofInt_byte_toNat _
  omega

/-! ### The obligations -/

/-- Settles O29: every form runs `negHandler` on its operand, which answers the two's complement, `N` and `Z` of it and `C` by the
switch; the byte is written back to the operand and `pc` moves on. -/
theorem negateResult : Obligations.NegateResult := by
  intro o s hinv
  exact ⟨encode_ofRmw .neg o, rmwNext .neg o s, rmwResult .neg o s, exec_ofRmw_eq_next .neg o s, rfl, rfl,
    negHandler_fst_toNat (readRmw o s) s, hinv.rmwNext_wroteOperand .neg o, rmwNext_hasNZ .neg o s,
    negHandler_flagC_borrow (readRmw o s), negHandler_flagC_additive (readRmw o s)⟩

/-- Settles O31: every form shifts its operand by one place, and `rotateIn` fills the place vacated; the displaced bit goes to `C`. -/
theorem rotateResult : Obligations.RotateResult := by
  intro o s hinv
  refine ⟨⟨encode_ofRmw .rol o, rmwNext .rol o s, rmwResult .rol o s, exec_ofRmw_eq_next .rol o s, rfl, rfl, ?rolCircular, ?rolCarry,
      hinv.rmwNext_wroteOperand .rol o, rmwNext_hasNZ .rol o s, getLsbD_seven_iff (readRmw o s)⟩,
    ⟨encode_ofRmw .ror o, rmwNext .ror o s, rmwResult .ror o s, exec_ofRmw_eq_next .ror o s, rfl, rfl, ?rorCircular, ?rorCarry,
      hinv.rmwNext_wroteOperand .ror o, rmwNext_hasNZ .ror o s, getLsbD_zero_iff (readRmw o s)⟩⟩
  case rolCircular =>
    intro h
    rw [rmwResult, rmwHandler, rolHandler_fst_toNat, rotateIn_circular _ h, getLsbD_seven_toNat]
  case rolCarry =>
    intro h
    rw [rmwResult, rmwHandler, rolHandler_fst_toNat, rotateIn_through_carry _ h]
  case rorCircular =>
    intro h
    rw [rmwResult, rmwHandler, rorHandler_fst_toNat, rotateIn_circular _ h, getLsbD_zero_toNat]
  case rorCarry =>
    intro h
    rw [rmwResult, rmwHandler, rorHandler_fst_toNat, rotateIn_through_carry _ h]

/-- Settles O32: every form runs its mnemonic's handler on its operand, which answers the byte one up or one down modulo 256 and keeps
`C`; the byte is written back to the operand and `pc` moves on. -/
theorem incDecResult : Obligations.IncDecResult := by
  intro o s hinv
  refine ⟨?inc, ?dec⟩
  case inc =>
    exact ⟨encode_ofRmw .inc o, rmwNext .inc o s, rmwResult .inc o s, exec_ofRmw_eq_next .inc o s, rfl, rfl,
      incHandler_fst_toNat (readRmw o s) s, hinv.rmwNext_wroteOperand .inc o, rmwNext_hasNZ .inc o s⟩
  case dec =>
    exact ⟨encode_ofRmw .dec o, rmwNext .dec o s, rmwResult .dec o s, exec_ofRmw_eq_next .dec o s, rfl, rfl,
      decHandler_fst_toNat (readRmw o s) s, hinv.rmwNext_wroteOperand .dec o, rmwNext_hasNZ .dec o s⟩

end Sys2Proof.Machine
end

section
/-! Proofs about the address arithmetic of the resolver (40_dispatch_addressing.md R88 to R93): effective addresses and relative
targets, in numbers. -/

namespace Sys2Proof.Machine

theorem zext16_toNat (b : Byte) : (zext16 b).toNat = b.toNat :=
  BitVec.toNat_setWidth_of_le (by decide)

/-- Settles O21: only the 16-bit offset can carry past `0xFFFF`. -/
theorem effectiveAddresses : Obligations.EffectiveAddresses := by
  intro x dd ff hhll eeff
  refine ⟨zext16_toNat dd, rfl, zext16_toNat x, ?ix1, ?ix2⟩
  case ix1 =>
    rw [effAddr, BitVec.toNat_add, zext16_toNat, zext16_toNat]
    omega
  case ix2 => rw [effAddr, BitVec.toNat_add, zext16_toNat]

/-- The relative target is the address after the instruction plus the signed offset, modulo 65536 (R93). -/
theorem relTarget_toNat (f : Format) (rr : Byte) (s : State) :
    ((relTarget f rr s).toNat : Int) = ((s.pc.toNat : Int) + f.len + rr.toInt) % 65536 := by
  have hoffset : ((sext16 rr).toNat : Int) = rr.toInt % 65536 := by
    have hmask : (sext16 rr).toNat = (rr.toInt % 65536).toNat := BitVec.toNat_ofInt _
    omega
  rw [relTarget, nextPc, BitVec.toNat_add, BitVec.toNat_add, BitVec.toNat_ofNat]
  omega

theorem nextPc_toNat (f : Format) (s : State) : ((nextPc f s).toNat : Int) = ((s.pc.toNat : Int) + f.len) % 65536 := by
  rw [nextPc, BitVec.toNat_add, BitVec.toNat_ofNat]
  omega

end Sys2Proof.Machine
end

section
/-! Proofs about the stores `sta` and `stx` (45_data_movement.md R151, R153): the byte at the effective address, and the flags. -/

namespace Sys2Proof.Machine

/-- The state after a store of `v`, field by field. -/
def storeNext (v : Byte) (o : AddrOperand) (s : State) : State :=
  { s with
    mem := (s.memWrite (effAddr s.x o) v).mem
    flagN := v.getLsbD 7
    flagZ := v == 0
    pc := s.pc + BitVec.ofNat 16 (addrFormat o).len }

theorem exec_ofSta_eq_next (o : AddrOperand) (s : State) : exec (.ofSta o) s = .next (storeNext s.a o s) := by
  rw [exec_ofSta, runStore_eq]
  rfl

theorem exec_ofStx_eq_next {o : AddrOperand} {i : Instr} (h : Instr.ofStx o = some i) (s : State) :
    exec i s = .next (storeNext s.x o s) := by
  rw [exec_ofStx h, runStore_eq]
  rfl

/-- In a canonical memory a store changes the byte at its effective address and no other. -/
theorem StateInv.storeNext_stored {s : State} (h : StateInv s) (v : Byte) (o : AddrOperand) :
    (storeNext v o s).memRead (effAddr s.x o) = v ∧ memSameExcept (effAddr s.x o) s (storeNext v o s) :=
  h.stored rfl rfl

/-- Settles O34: every form of either store ends in `storeNext` of its register. -/
theorem storeResult : Obligations.StoreResult := by
  intro o s hinv
  refine ⟨?sta, fun i hi => ?stx⟩
  case sta =>
    obtain ⟨hcell, hothers⟩ := hinv.storeNext_stored s.a o
    exact ⟨encode_ofSta o, storeNext s.a o s, exec_ofSta_eq_next o s, rfl, by rw [len_ofSta]; rfl, hcell, hothers,
      hasNZ_of_flags rfl rfl⟩
  case stx =>
    obtain ⟨hcell, hothers⟩ := hinv.storeNext_stored s.x o
    exact ⟨encode_ofStx hi, storeNext s.x o s, exec_ofStx_eq_next hi s, rfl, by rw [len_ofStx hi]; rfl, hcell, hothers,
      hasNZ_of_flags rfl rfl⟩

end Sys2Proof.Machine
end

section
/-! Proofs about `bset`, `bclr`, `brset` and `brclr` (47_bit_ops.md R180 to R184): one bit of one byte, written or tested. -/

namespace Sys2Proof.Machine

/-! ### The mask -/

theorem getLsbD_bitMask (n : Nat) {k : Nat} (hk : k < 8) : (bitMask n).getLsbD k = decide (k = n) := by
  rw [bitMask, BitVec.getLsbD_ofNat, Nat.testBit_two_pow, decide_eq_true hk, Bool.true_and, decide_eq_decide, eq_comm]

/-- Subtracting the mask from `0xFF` complements it (R181). -/
theorem sub_bitMask (n : Fin 8) : 255 - bitMask n = ~~~ bitMask n := by
  revert n
  decide

theorem getLsbD_or_bitMask (v : Byte) (n : Nat) {k : Nat} (hk : k < 8) :
    (v ||| bitMask n).getLsbD k = if k = n then true else v.getLsbD k := by
  rw [BitVec.getLsbD_or, getLsbD_bitMask n hk]
  by_cases h : k = n <;> simp [h]

theorem getLsbD_and_sub_bitMask (v : Byte) (n : Fin 8) {k : Nat} (hk : k < 8) :
    (v &&& (255 - bitMask n)).getLsbD k = if k = n.val then false else v.getLsbD k := by
  rw [sub_bitMask, BitVec.getLsbD_and, BitVec.getLsbD_not, getLsbD_bitMask n hk, decide_eq_true hk]
  by_cases h : k = n.val <;> simp [h]

/-! ### `bset` and `bclr` -/

/-- The state after `v` is written at the direct address `dd` and `pc` steps over two bytes. -/
def bitWriteNext (dd v : Byte) (s : State) : State :=
  { s with mem := (s.memWrite (zext16 dd) v).mem, pc := s.pc + 2 }

theorem exec_ofBset_eq_next (n : Fin 8) (dd : Byte) (s : State) :
    exec (.ofBset n dd) s = .next (bitWriteNext dd (s.memRead (zext16 dd) ||| bitMask n) s) := by
  rw [exec_ofBset]
  rfl

theorem exec_ofBclr_eq_next (n : Fin 8) (dd : Byte) (s : State) :
    exec (.ofBclr n dd) s = .next (bitWriteNext dd (s.memRead (zext16 dd) &&& (255 - bitMask n)) s) := by
  rw [exec_ofBclr]
  rfl

theorem StateInv.bitWriteNext_stored {s : State} (h : StateInv s) (dd v : Byte) :
    (bitWriteNext dd v s).memRead (zext16 dd) = v ∧ memSameExcept (zext16 dd) s (bitWriteNext dd v s) :=
  h.stored rfl rfl

/-- Settles O39: the byte written differs from the byte read in the bit of the mask. -/
theorem bitSetClearResult : Obligations.BitSetClearResult := by
  intro n dd s hinv
  refine ⟨⟨encode_ofBset n dd, _, exec_ofBset_eq_next n dd s, rfl, ?bsetOthers, fun k hk => ?bsetBits⟩,
    ⟨encode_ofBclr n dd, _, exec_ofBclr_eq_next n dd s, rfl, ?bclrOthers, fun k hk => ?bclrBits⟩⟩
  case bsetOthers => exact (hinv.bitWriteNext_stored dd _).right
  case bsetBits => rw [(hinv.bitWriteNext_stored dd _).left, getLsbD_or_bitMask _ _ hk]
  case bclrOthers => exact (hinv.bitWriteNext_stored dd _).right
  case bclrBits => rw [(hinv.bitWriteNext_stored dd _).left, getLsbD_and_sub_bitMask _ n hk]

/-! ### `brset` and `brclr` -/

theorem exec_ofBrset_eq_next (n : Fin 8) (dd rr : Byte) (s : State) : exec (.ofBrset n dd rr) s = .next { s with
    pc := if (s.memRead (zext16 dd)).getLsbD n then relTarget .btb rr s else s.pc + 3 } := by
  rw [exec_ofBrset, runBrset, runBranch_eq]
  rfl

theorem exec_ofBrclr_eq_next (n : Fin 8) (dd rr : Byte) (s : State) : exec (.ofBrclr n dd rr) s = .next { s with
    pc := if !(s.memRead (zext16 dd)).getLsbD n then relTarget .btb rr s else s.pc + 3 } := by
  rw [exec_ofBrclr, runBrclr, runBranch_eq]
  rfl

/-- Settles O40: either branch writes `pc` alone, with the target or the address after its three bytes. -/
theorem bitBranchResult : Obligations.BitBranchResult := by
  intro n dd rr s
  have htarget : ((relTarget .btb rr s).toNat : Int) = ((s.pc.toNat : Int) + 3 + rr.toInt) % 65536 := relTarget_toNat .btb rr s
  refine ⟨⟨encode_ofBrset n dd rr, _, exec_ofBrset_eq_next n dd rr s, rfl, memRead_congr rfl rfl, ?setTaken, ?setNotTaken⟩,
    ⟨encode_ofBrclr n dd rr, _, exec_ofBrclr_eq_next n dd rr s, rfl, memRead_congr rfl rfl, ?clearTaken, ?clearNotTaken⟩⟩
  case setTaken => intro h; simpa only [h, if_true] using htarget
  case setNotTaken => intro h; simp only [h, Bool.false_eq_true, if_false]
  case clearTaken => intro h; simpa only [h, Bool.not_false, if_true] using htarget
  case clearNotTaken => intro h; simp only [h, Bool.not_true, Bool.false_eq_true, if_false]

end Sys2Proof.Machine
end

section
/-! Proofs about the fourteen branches (48_branches.md R190): the condition as the machine evaluates it, and the two ends. -/

namespace Sys2Proof.Machine

/-- The condition each branch evaluates. -/
def branchCond : BranchOp → State → Bool
  | .bra, _ => true
  | .brn, _ => false
  | .bhi, s => !s.flagC && !s.flagZ
  | .bls, s => s.flagC || s.flagZ
  | .bcc, s => !s.flagC
  | .bcs, s => s.flagC
  | .bne, s => !s.flagZ
  | .beq, s => s.flagZ
  | .bhcc, s => !s.flagH
  | .bhcs, s => s.flagH
  | .bpl, s => !s.flagN
  | .bmi, s => s.flagN
  | .bmc, s => !s.flagI
  | .bms, s => s.flagI

theorem branchCond_iff (op : BranchOp) (s : State) : branchCond op s = true ↔ branchTaken op s := by
  cases op <;> simp [branchCond, branchTaken]

/-- A branch writes `pc` alone: the target if its condition holds, else the address after it. -/
theorem exec_ofBranch_eq_next (op : BranchOp) (rr : Byte) (s : State) : exec (.ofBranch op rr) s = .next { s with
    pc := if branchCond op s then relTarget .rel rr s else nextPc .rel s } := by
  have hrun : exec (.ofBranch op rr) s = runBranch (branchCond op s) .rel rr s := by cases op <;> rfl
  rw [hrun, runBranch_eq]

/-- Settles O41, for all branches at once. -/
theorem branchResult : Obligations.BranchResult := by
  intro op rr s
  refine ⟨encode_ofBranch op rr, _, exec_ofBranch_eq_next op rr s, rfl, memRead_congr rfl rfl, ?taken, ?notTaken⟩
  case taken =>
    intro h
    simp only [if_pos ((branchCond_iff op s).mpr h)]
    exact relTarget_toNat .rel rr s
  case notTaken =>
    intro h
    simp only [if_neg (mt (branchCond_iff op s).mp h)]
    exact nextPc_toNat .rel s

end Sys2Proof.Machine
end

section
/-! Proofs about calls, the trap and the returns (49_subroutine_interrupt_control.md R210 to R214): the bytes they push and pop. -/

namespace Sys2Proof.Machine

/-- Settles O20: a push writes the ring and `sp`, a memory write the memory, and neither is part of the other. -/
theorem ringAndMemoryAreDisjoint : Obligations.RingAndMemoryAreDisjoint := by
  intro s addr v
  exact ⟨push_memRead v s, memWrite_ring s addr v, memWrite_sp s addr v, rfl⟩

/-! ### Calls -/

/-- The state after a call with return address `ra`: both bytes of it pushed, low byte first, and `pc` at the target. -/
def callNext (ra target : Addr) (s : State) : State := { push (highByte ra) (push (lowByte ra) s) with pc := target }

theorem exec_bsr_eq_next (rr : Byte) (s : State) :
    exec (.bsr rr) s = .next (callNext (s.pc + 2) (relTarget .rel rr s) s) := rfl

theorem exec_ofJsr_eq_next (o : AddrOperand) (s : State) : exec (.ofJsr o) s =
    .next (callNext (s.pc + BitVec.ofNat 16 (Instr.ofJsr o).len) (effAddr s.x o) s) := by
  rw [exec_ofJsr, runCall_eq, push16_eq, nextPc, len_ofJsr, callNext]

/-- Settles O44: either kind of call ends in `callNext`, whose two pushes reach the ring and not the memory. -/
theorem callResult : Obligations.CallResult := by
  intro s
  refine ⟨fun rr => ⟨rfl, _, exec_bsr_eq_next rr s, memRead_congr rfl rfl, ?bsrTarget, rfl⟩,
    fun o => ⟨encode_ofJsr o, _, exec_ofJsr_eq_next o s, memRead_congr rfl rfl, rfl, rfl⟩⟩
  case bsrTarget => exact relTarget_toNat .rel rr s

/-- Settles O45: `rts` joins the two bytes at `sp` and above it, and moves `sp` past them. -/
theorem rtsResult : Obligations.RtsResult := by
  intro s
  refine ⟨rfl, _, exec_rts s, memRead_congr rfl rfl, ?target, rfl⟩
  case target =>
    rw [pop16_eq]
    exact joinBytes_toNat _ _

/-! ### The trap and the return from it -/

theorem packCcr_toNat (s : State) : s.packCcr.toNat =
    0xE0 + 16 * s.flagH.toNat + 8 * s.flagI.toNat + 4 * s.flagN.toNat + 2 * s.flagZ.toNat + s.flagC.toNat := by
  simp only [State.packCcr, bitNat_eq_toNat, BitVec.toNat_ofNat]
  have hH := s.flagH.toNat_le
  have hI := s.flagI.toNat_le
  have hN := s.flagN.toNat_le
  have hZ := s.flagZ.toNat_le
  have hC := s.flagC.toNat_le
  omega

/-- Settles O46: the trap pushes its five bytes in order and reads the vector in a memory that the pushes do not reach. -/
theorem swiResult : Obligations.SwiResult := by
  intro s
  refine ⟨rfl, _, exec_swi s, memRead_congr rfl rfl, ?vector, packCcr_toNat s, ?frame⟩
  case vector => exact joinBytes_toNat _ _
  case frame =>
    show _ = { pushAll (swiBytes s) s with flagI := true, pc := s.memRead16 s.cfg.swiVector }
    rw [pushAll_frame]

/-- The first pop, then the others from the state it leaves. -/
theorem popAll_succ (n : Nat) (s : State) :
    popAll (n + 1) s = ((pop s).1 :: (popAll n (pop s).2).1, (popAll n (pop s).2).2) := rfl

/-- The return from the trap in terms of five pops: the flags, `a`, `x`, the high and the low byte of the return address. -/
theorem exec_rti_of_popAll {s : State} {b av xv h l : Byte} (hpops : (popAll 5 s).1 = [b, av, xv, h, l]) :
    exec .rti s = .next { s with
      flagH := b.getLsbD 4, flagI := b.getLsbD 3, flagN := b.getLsbD 2, flagZ := b.getLsbD 1, flagC := b.getLsbD 0
      a := av, x := xv, sp := (popAll 5 s).2.sp, pc := joinBytes h l } := by
  simp only [popAll_succ, List.cons.injEq] at hpops
  obtain ⟨rfl, rfl, rfl, rfl, rfl, -⟩ := hpops
  rw [exec_rti, leaveTrap_eq]
  rfl

/-- Settles O47: `rti` takes its five bytes from five pops in the order of the statement. -/
theorem rtiResult : Obligations.RtiResult := by
  intro s
  exact ⟨rfl, _, _, _, _, _, _, rfl, exec_rti_of_popAll rfl, memRead_congr rfl rfl, rfl, joinBytes_toNat _ _⟩

end Sys2Proof.Machine
end

section
/-! Proofs about sequences of pushes and pops (10_state.md R29): the path of `sp` around the stack window, the cell that pushes leave
alone, last in first out, and the round trips through a call and through the trap. -/

namespace Sys2Proof.Machine

/-! ### The invariant under the stack operations -/

/-- What the invariant asks of `sp` and the ring. -/
def StackOk (s : State) : Prop :=
  stackBottom s.cfg ≤ s.sp.toNat ∧ s.sp.toNat ≤ s.cfg.stackTop.toNat ∧ s.ring.length = s.cfg.stackSize

theorem StateInv.stackOk {s : State} (h : StateInv s) : StackOk s := ⟨h.sp_ge, h.sp_le, h.ring_len⟩

/-- The invariant is kept by a change of `sp` and ring that stays in the window. -/
theorem StateInv.withStack {s : State} (h : StateInv s) {sp : Addr} {ring : List Byte}
    (hstack : StackOk { s with sp := sp, ring := ring }) : StateInv { s with sp := sp, ring := ring } := by
  obtain ⟨hge, hle, hlen⟩ := hstack
  exact ⟨h.cfg_wf, h.mem_wf, hge, hle, hlen, h.latch_unknown⟩

theorem StateInv.after_push {s : State} (h : StateInv s) (v : Byte) : StateInv (push v s) := by
  obtain ⟨hge, hle⟩ := h.spDown_window
  exact h.withStack ⟨hge, hle, (push_ring_length v s).trans h.ring_len⟩

theorem StateInv.after_pop {s : State} (h : StateInv s) : StateInv (pop s).2 := by
  obtain ⟨hge, hle⟩ := spUp_window h.one_le_stackSize h.sp_ge
  exact h.withStack ⟨hge, hle, h.ring_len⟩

theorem StateInv.after_pushAll {s : State} (h : StateInv s) (vs : List Byte) : StateInv (pushAll vs s) := by
  induction vs generalizing s with
  | nil => exact h
  | cons v vs ih => exact ih (h.after_push v)

theorem StateInv.after_popAll {s : State} (h : StateInv s) (n : Nat) : StateInv (popAll n s).2 := by
  induction n generalizing s with
  | zero => exact h
  | succ n ih => exact ih h.after_pop

/-! ### The path of `sp` -/

@[simp] theorem pushAll_cfg (vs : List Byte) (s : State) : (pushAll vs s).cfg = s.cfg := by rw [pushAll_frame]

theorem pushAll_sp (vs : List Byte) (s : State) : (pushAll vs s).sp = (spDown s.cfg)^[vs.length] s.sp := by
  induction vs generalizing s with
  | nil => rfl
  | cons v vs ih => exact ih (push v s)

/-- After `k` steps down, at most once around: `k` below `sp`, or the size of the ring above that. -/
theorem spDown_iterate_toNat {c : Config} {sp : Addr} (hfits : c.stackSize ≤ c.stackTop.toNat + 1)
    (hge : stackBottom c ≤ sp.toNat) (hle : sp.toNat ≤ c.stackTop.toNat) {k : Nat} (hk : k ≤ c.stackSize) :
    ((spDown c)^[k] sp).toNat = if k ≤ sp.toNat - stackBottom c then sp.toNat - k else sp.toNat + c.stackSize - k := by
  have hbottom : stackBottom c + c.stackSize = c.stackTop.toNat + 1 := Nat.sub_add_cancel hfits
  induction k with
  | zero => simp
  | succ k ih =>
    rw [Function.iterate_succ_apply', spDown_toNat, ih (by omega)]
    split_ifs <;> omega

/-- The steps down come back to `sp` after exactly the size of the ring. -/
theorem spDown_iterate_stackSize {c : Config} {sp : Addr} (hfits : c.stackSize ≤ c.stackTop.toNat + 1)
    (hge : stackBottom c ≤ sp.toNat) (hle : sp.toNat ≤ c.stackTop.toNat) : (spDown c)^[c.stackSize] sp = sp := by
  have hbottom : stackBottom c + c.stackSize = c.stackTop.toNat + 1 := Nat.sub_add_cancel hfits
  apply BitVec.eq_of_toNat_eq
  rw [spDown_iterate_toNat hfits hge hle le_rfl]
  split_ifs <;> omega

/-- They do not come back earlier. -/
theorem spDown_iterate_ne {c : Config} {sp : Addr} (hfits : c.stackSize ≤ c.stackTop.toNat + 1)
    (hge : stackBottom c ≤ sp.toNat) (hle : sp.toNat ≤ c.stackTop.toNat) {k : Nat} (hpos : 0 < k) (hk : k < c.stackSize) :
    (spDown c)^[k] sp ≠ sp := by
  have hbottom : stackBottom c + c.stackSize = c.stackTop.toNat + 1 := Nat.sub_add_cancel hfits
  intro h
  have hsteps := spDown_iterate_toNat hfits hge hle hk.le
  rw [h] at hsteps
  split_ifs at hsteps <;> omega

/-! ### What pushes leave alone -/

/-- A cell of the window that none of the pushes lands on keeps its byte. -/
theorem StateInv.pushAll_ringRead {s : State} (h : StateInv s) {cell : Addr} (hcell : stackBottom s.cfg ≤ cell.toNat)
    (vs : List Byte) (hne : ∀ k < vs.length, cell ≠ (spDown s.cfg)^[k + 1] s.sp) :
    (pushAll vs s).ringRead cell = s.ringRead cell := by
  induction vs generalizing s with
  | nil => rfl
  | cons v vs ih =>
    have hfirst : cell ≠ spDown s.cfg s.sp := hne 0 (Nat.zero_lt_succ _)
    have hothers : ∀ k < vs.length, cell ≠ (spDown s.cfg)^[k + 1] (spDown s.cfg s.sp) := fun k hk =>
      hne (k + 1) (Nat.succ_lt_succ hk)
    rw [pushAll, ih (h.after_push v) hcell hothers, h.push_ringRead v hcell, if_neg hfirst]

/-- Fewer pushes than the ring has cells leave the cell at `sp`, the last one pushed before them. -/
theorem StateInv.pushAll_ringRead_sp {s : State} (h : StateInv s) {vs : List Byte} (hlen : vs.length < s.cfg.stackSize) :
    (pushAll vs s).ringRead s.sp = s.ringRead s.sp :=
  h.pushAll_ringRead h.sp_ge vs fun _ hk =>
    (spDown_iterate_ne h.stackSize_le h.sp_ge h.sp_le (Nat.succ_pos _) (by omega)).symm

/-- The cell a push wrote holds the byte. -/
theorem StateInv.push_ringRead_sp {s : State} (h : StateInv s) (v : Byte) : (push v s).ringRead (push v s).sp = v := by
  obtain ⟨hge, -⟩ := h.spDown_window
  rw [push_sp, h.push_ringRead v hge, if_pos rfl]

/-! ### Pops -/

/-- Pops move `sp` and nothing else. -/
theorem popAll_frame (n : Nat) (s : State) : (popAll n s).2 = { s with sp := (popAll n s).2.sp } := by
  induction n generalizing s with
  | zero => rfl
  | succ n ih =>
    rw [popAll_succ]
    exact ih (pop s).2

theorem popAll_ringRead (n : Nat) (s : State) (cell : Addr) : (popAll n s).2.ringRead cell = s.ringRead cell := by
  rw [popAll_frame]
  rfl

@[simp] theorem popAll_cfg (n : Nat) (s : State) : (popAll n s).2.cfg = s.cfg := by rw [popAll_frame]

/-- The last pop, after the others. -/
theorem popAll_succ_last (n : Nat) (s : State) :
    popAll (n + 1) s = ((popAll n s).1 ++ [(pop (popAll n s).2).1], (pop (popAll n s).2).2) := by
  induction n generalizing s with
  | zero => rfl
  | succ n ih => rw [popAll_succ (n + 1), ih, popAll_succ n]; rfl

/-- What pops answer, and where they leave `sp`, depends on the stack and the parameters alone. -/
theorem popAll_congr {s t : State} (h : sameStack s t) (n : Nat) :
    (popAll n t).1 = (popAll n s).1 ∧ (popAll n t).2.sp = (popAll n s).2.sp := by
  induction n generalizing s t with
  | zero => exact ⟨rfl, h.left⟩
  | succ n ih =>
    obtain ⟨hsp, hring, hcfg⟩ := h
    have hread : t.ringRead t.sp = s.ringRead s.sp := by rw [State.ringRead, State.ringRead, hsp, hring, hcfg]
    have hpop : sameStack (pop s).2 (pop t).2 := ⟨by rw [pop_snd_sp, pop_snd_sp, hsp, hcfg], hring, hcfg⟩
    obtain ⟨hbytes, hend⟩ := ih hpop
    rw [popAll_succ, popAll_succ]
    exact ⟨by rw [hbytes, pop_eq, pop_eq, hread], hend⟩

/-! ### The obligations on sequences -/

/-- Settles O18, by induction on the pushes: the later ones are popped first and leave the cell of the first one alone. -/
theorem pushesPopInReverse : Obligations.PushesPopInReverse := by
  intro s vs hinv hlen
  induction vs generalizing s with
  | nil => exact ⟨rfl, rfl⟩
  | cons v vs ih =>
    obtain ⟨hbytes, hsp⟩ := ih (push v s) (hinv.after_push v) (Nat.le_of_succ_le hlen)
    have hcell : (pushAll vs (push v s)).ringRead (push v s).sp = v := by
      rw [(hinv.after_push v).pushAll_ringRead_sp hlen, hinv.push_ringRead_sp]
    rw [List.length_cons, popAll_succ_last, pushAll]
    constructor
    · rw [hbytes, pop_eq, hsp, popAll_ringRead, hcell, List.reverse_cons]
    · rw [pop_snd_sp, hsp, popAll_cfg, pushAll_cfg]
      exact spUp_spDown hinv.one_le_stackSize hinv.sp_ge hinv.sp_le

/-- Settles O19: `sp` is back after as many pushes as the ring has cells, so the next push goes where the first one went. -/
theorem fullRingWrapsAround : Obligations.FullRingWrapsAround := by
  intro s v w vs hinv hlen
  have hback : (pushAll (v :: vs) s).sp = s.sp := by
    rw [pushAll_sp, hlen, spDown_iterate_stackSize hinv.stackSize_le hinv.sp_ge hinv.sp_le]
  have hnext : (push w (pushAll (v :: vs) s)).sp = (push v s).sp := by
    rw [push_sp, push_sp, hback, pushAll_cfg]
  refine ⟨hback, hnext, ?cell⟩
  case cell => rw [← hnext, (hinv.after_pushAll (v :: vs)).push_ringRead_sp]

/-! ### The round trips -/

/-- Any state whose stack is as pushes left it pops their bytes in reverse and comes back to the old `sp`. -/
theorem StateInv.popAll_of_sameStack {s t u : State} (h : StateInv s) {vs : List Byte} (hlen : vs.length ≤ s.cfg.stackSize)
    (ht : sameStack (pushAll vs s) t) (hu : sameStack t u) :
    (popAll vs.length u).1 = vs.reverse ∧ (popAll vs.length u).2.sp = s.sp := by
  obtain ⟨hbytes, hsp⟩ := pushesPopInReverse s vs h hlen
  obtain ⟨htBytes, htSp⟩ := popAll_congr ht vs.length
  obtain ⟨huBytes, huSp⟩ := popAll_congr hu vs.length
  exact ⟨huBytes.trans (htBytes.trans hbytes), huSp.trans (htSp.trans hsp)⟩

/-- A call, of either kind, ends in `callNext` with the address past it. -/
theorem exec_call_eq_next {i : Instr} (h : (∃ rr, i = .bsr rr) ∨ ∃ o, i = .ofJsr o) (s : State) :
    ∃ target, exec i s = .next (callNext (s.pc + BitVec.ofNat 16 i.len) target s) := by
  obtain ⟨rr, rfl⟩ | ⟨o, rfl⟩ := h
  · exact ⟨_, exec_bsr_eq_next rr s⟩
  · exact ⟨_, exec_ofJsr_eq_next o s⟩

/-- The return in terms of two pops, high byte first. -/
theorem exec_rts_of_popAll {s : State} {h l : Byte} (hpops : (popAll 2 s).1 = [h, l]) :
    exec .rts s = .next { s with pc := joinBytes h l, sp := (popAll 2 s).2.sp } := by
  simp only [popAll_succ, List.cons.injEq] at hpops
  obtain ⟨rfl, rfl, -⟩ := hpops
  rw [exec_rts, pop16_eq]
  rfl

/-- The two bytes a call stacks, in the order it pushes them. -/
def callBytes (ra : Addr) : List Byte := [lowByte ra, highByte ra]

/-- Settles O51: the two bytes popped are those of the return address, joined again. -/
theorem callReturnRoundTrip : Obligations.CallReturnRoundTrip := by
  intro i s t u hinv hsize hcall hexec hstack
  generalize hra : s.pc + BitVec.ofNat 16 i.len = ra
  obtain ⟨target, hnext⟩ := exec_call_eq_next hcall s
  rw [hra, hexec, Host.Outcome.next.injEq] at hnext
  have hpushed : sameStack (pushAll (callBytes ra) s) t := by
    rw [hnext]
    exact ⟨rfl, rfl, rfl⟩
  obtain ⟨hbytes, hsp⟩ := hinv.popAll_of_sameStack (vs := callBytes ra) hsize hpushed hstack
  have hpops : (popAll 2 u).1 = [highByte ra, lowByte ra] := hbytes
  have hback : (popAll 2 u).2.sp = s.sp := hsp
  rw [exec_rts_of_popAll hpops, joinBytes_high_low, hback]

/-- Settles O52: the five bytes popped are those the trap pushed, in reverse; the packed flags unpack to the flags before it. -/
theorem swiRtiRoundTrip : Obligations.SwiRtiRoundTrip := by
  intro s t u hinv hsize hexec hstack
  rw [exec_swi, Host.Outcome.next.injEq] at hexec
  have hpushed : sameStack (pushAll (swiBytes s) s) t := by
    rw [← hexec]
    exact ⟨rfl, rfl, (pushAll_cfg (swiBytes s) s).symm⟩
  obtain ⟨hbytes, hsp⟩ := hinv.popAll_of_sameStack (vs := swiBytes s) hsize hpushed hstack
  have hpops : (popAll 5 u).1 = [s.packCcr, s.a, s.x, highByte (s.pc + 1), lowByte (s.pc + 1)] := hbytes
  have hback : (popAll 5 u).2.sp = s.sp := hsp
  obtain ⟨hH, hI, hN, hZ, hC⟩ := packCcr_bits s
  rw [exec_rti_of_popAll hpops, joinBytes_high_low, hback, hH, hI, hN, hZ, hC]

end Sys2Proof.Machine
end

section
/-! What an instruction can do: the footprint, which says for each piece of state what happens to it and which instructions may do
so. Every form of every instruction is given its footprint once; the whole-machine rules are read off it. -/

namespace Sys2Proof.Machine

/-! ### The footprint -/

/-- What `i` does to memory: nothing, or one byte stored by an instruction of 20_memory.md R57. -/
inductive MemoryStep (i : Instr) (s t : State) : Prop where
  | kept (hmem : t.mem = s.mem)
  | stored (hi : StoresMemory i) (ea : Addr) (v : Byte) (hmem : t.mem = (s.memWrite ea v).mem)

/-- What `i` does to `sp` and the ring: nothing, the reset of `sp` by `rsp`, or pushes or pops by an instruction of 10_state.md R25. -/
inductive StackStep (i : Instr) (s t : State) : Prop where
  | kept (hsp : t.sp = s.sp) (hring : t.ring = s.ring)
  | reset (hi : i = .rsp) (hsp : t.sp = s.cfg.stackTop) (hring : t.ring = s.ring)
  | pushed (hi : ReachesRing i) (vs : List Byte) (hsp : t.sp = (pushAll vs s).sp) (hring : t.ring = (pushAll vs s).ring)
  | popped (hi : ReachesRing i) (n : Nat) (hsp : t.sp = (popAll n s).2.sp) (hring : t.ring = s.ring)

/-- Everything `i` does between `s` and `t`. A field not given says that its piece of state is unchanged, and `pc` past `i`. -/
structure Footprint (i : Instr) (s t : State) : Prop where
  fault : t.fault = s.fault := by rfl
  cfg : t.cfg = s.cfg := by rfl
  pc : MayRedirect i ∨ t.pc = s.pc + BitVec.ofNat 16 i.len := by exact .inr rfl
  memory : MemoryStep i s t := by exact .kept rfl
  stack : StackStep i s t := by exact .kept rfl rfl
  halfCarry : t.flagH = s.flagH ∨ (∃ o, i = .ofValue .add o ∨ i = .ofValue .adc o) ∨ i = .rti := by exact .inl rfl
  mask : t.flagI = s.flagI ∨ i = .swi ∨ i = .rti ∨ i = .cli ∨ i = .sei := by exact .inl rfl
  carry : t.flagC = s.flagC ∨ WritesC i ∨ (s.cfg.cmpUpdatesC = true ∧ ∃ o, i = .ofValue .cmp o ∨ i = .ofValue .cpx o) := by
    exact .inl rfl
  resultFlags : (t.flagN = s.flagN ∧ t.flagZ = s.flagZ) ∨ WritesNZ i := by exact .inl ⟨rfl, rfl⟩
  a : t.a = s.a ∨ WritesA i := by exact .inl rfl
  x : t.x = s.x ∨ WritesX i := by exact .inl rfl

/-! ### Membership in the classes of instructions -/

theorem writesNZ_ofValue (op : ValueOp) (o : ValueOperand) : WritesNZ (.ofValue op o) := .inl ⟨op, o, rfl⟩

theorem writesNZ_ofRmw (op : RmwOp) (o : RmwOperand) : WritesNZ (.ofRmw op o) := .inr (.inl ⟨op, o, rfl⟩)

theorem writesNZ_ofTst (o : RmwOperand) : WritesNZ (.ofTst o) := .inr (.inr (.inl ⟨o, .inl rfl⟩))

theorem writesNZ_ofClr (o : RmwOperand) : WritesNZ (.ofClr o) := .inr (.inr (.inl ⟨o, .inr rfl⟩))

theorem writesNZ_ofSta (o : AddrOperand) : WritesNZ (.ofSta o) := .inr (.inr (.inr (.inl ⟨o, rfl⟩)))

theorem writesNZ_ofStx {o : AddrOperand} {i : Instr} (h : Instr.ofStx o = some i) : WritesNZ i :=
  .inr (.inr (.inr (.inr (.inl ⟨o, h⟩))))

theorem writesNZ_tax : WritesNZ .tax := by simp [WritesNZ]

theorem writesNZ_txa : WritesNZ .txa := by simp [WritesNZ]

theorem writesNZ_rti : WritesNZ .rti := by simp [WritesNZ]

theorem writesC_ofValue {op : ValueOp} (o : ValueOperand) (h : op ∈ [ValueOp.add, .adc, .sub, .sbc]) : WritesC (.ofValue op o) :=
  .inl ⟨op, o, h, rfl⟩

theorem writesC_ofRmw {op : RmwOp} (o : RmwOperand) (h : op ∉ [RmwOp.inc, .dec]) : WritesC (.ofRmw op o) :=
  .inr (.inl ⟨op, o, h, rfl⟩)

theorem writesA_ofValue {op : ValueOp} (o : ValueOperand) (h : op ∉ [ValueOp.ldx, .cmp, .cpx]) : WritesA (.ofValue op o) :=
  .inl ⟨op, o, h, rfl⟩

theorem storesMemory_ofRmw (op : RmwOp) {o : RmwOperand} (ha : o ≠ .acc) (hx : o ≠ .index) : StoresMemory (.ofRmw op o) :=
  .inr (.inr (.inl ⟨op, o, ha, hx, rfl⟩))

theorem storesMemory_ofClr {o : RmwOperand} (ha : o ≠ .acc) (hx : o ≠ .index) : StoresMemory (.ofClr o) :=
  .inr (.inr (.inr (.inl ⟨o, ha, hx, rfl⟩)))

theorem storesMemory_ofBset (n : Fin 8) (dd : Byte) : StoresMemory (.ofBset n dd) :=
  .inr (.inr (.inr (.inr ⟨n, dd, .inl rfl⟩)))

theorem storesMemory_ofBclr (n : Fin 8) (dd : Byte) : StoresMemory (.ofBclr n dd) :=
  .inr (.inr (.inr (.inr ⟨n, dd, .inr rfl⟩)))

theorem mayRedirect_ofBrset (n : Fin 8) (dd rr : Byte) : MayRedirect (.ofBrset n dd rr) :=
  .inr (.inl ⟨n, dd, rr, .inl rfl⟩)

theorem mayRedirect_ofBrclr (n : Fin 8) (dd rr : Byte) : MayRedirect (.ofBrclr n dd rr) :=
  .inr (.inl ⟨n, dd, rr, .inr rfl⟩)

theorem mayRedirect_bsr (rr : Byte) : MayRedirect (.bsr rr) := .inr (.inr (.inl ⟨rr, rfl⟩))

theorem mayRedirect_ofJsr (o : AddrOperand) : MayRedirect (.ofJsr o) := .inr (.inr (.inr (.inl ⟨o, .inl rfl⟩)))

theorem mayRedirect_ofJmp (o : AddrOperand) : MayRedirect (.ofJmp o) := .inr (.inr (.inr (.inl ⟨o, .inr rfl⟩)))

theorem mayRedirect_rts : MayRedirect .rts := by simp [MayRedirect]

theorem mayRedirect_rti : MayRedirect .rti := by simp [MayRedirect]

theorem mayRedirect_swi : MayRedirect .swi := by simp [MayRedirect]

theorem reachesRing_rts : ReachesRing .rts := by simp [ReachesRing]

theorem reachesRing_rti : ReachesRing .rti := by simp [ReachesRing]

theorem reachesRing_swi : ReachesRing .swi := by simp [ReachesRing]

/-! ### Where a write-back goes -/

theorem writeRmw_a (o : RmwOperand) (r : Byte) (s : State) : (writeRmw o r s).a = s.a ∨ o = .acc := by
  cases o with
  | acc => exact .inr rfl
  | _ => exact .inl rfl

theorem writeRmw_x (o : RmwOperand) (r : Byte) (s : State) : (writeRmw o r s).x = s.x ∨ o = .index := by
  cases o with
  | index => exact .inr rfl
  | _ => exact .inl rfl

theorem writeRmw_mem (o : RmwOperand) (r : Byte) (s : State) : (writeRmw o r s).mem = s.mem ∨
    (o ≠ .acc ∧ o ≠ .index ∧ ∃ ea, (writeRmw o r s).mem = (s.memWrite ea r).mem) := by
  cases o with
  | acc => exact .inl rfl
  | index => exact .inl rfl
  | _ => exact .inr ⟨nofun, nofun, _, rfl⟩

/-! ### The footprint of each form -/

theorem footprint_ofValue (op : ValueOp) (o : ValueOperand) (s : State) : Footprint (.ofValue op o) s
    { valueHandler op (readValue o s) s with pc := s.pc + BitVec.ofNat 16 (Instr.ofValue op o).len } := by
  have hNZ := writesNZ_ofValue op o
  cases op with
  | add => exact { halfCarry := .inr (.inl ⟨o, .inl rfl⟩), carry := .inr (.inl (writesC_ofValue o (by simp))),
                   resultFlags := .inr hNZ, a := .inr (writesA_ofValue o (by simp)) }
  | adc => exact { halfCarry := .inr (.inl ⟨o, .inr rfl⟩), carry := .inr (.inl (writesC_ofValue o (by simp))),
                   resultFlags := .inr hNZ, a := .inr (writesA_ofValue o (by simp)) }
  | sub => exact { carry := .inr (.inl (writesC_ofValue o (by simp))), resultFlags := .inr hNZ,
                   a := .inr (writesA_ofValue o (by simp)) }
  | sbc => exact { carry := .inr (.inl (writesC_ofValue o (by simp))), resultFlags := .inr hNZ,
                   a := .inr (writesA_ofValue o (by simp)) }
  | and => exact { resultFlags := .inr hNZ, a := .inr (writesA_ofValue o (by simp)) }
  | ora => exact { resultFlags := .inr hNZ, a := .inr (writesA_ofValue o (by simp)) }
  | eor => exact { resultFlags := .inr hNZ, a := .inr (writesA_ofValue o (by simp)) }
  | lda => exact { resultFlags := .inr hNZ, a := .inr (writesA_ofValue o (by simp)) }
  | ldx => exact { resultFlags := .inr hNZ, x := .inr (.inl ⟨o, rfl⟩) }
  | cmp =>
    cases hswitch : s.cfg.cmpUpdatesC with
    | true => exact { carry := .inr (.inr ⟨hswitch, o, .inl rfl⟩), resultFlags := .inr hNZ }
    | false => exact { carry := .inl (compareWith_flagC_kept s.a _ hswitch), resultFlags := .inr hNZ }
  | cpx =>
    cases hswitch : s.cfg.cmpUpdatesC with
    | true => exact { carry := .inr (.inr ⟨hswitch, o, .inr rfl⟩), resultFlags := .inr hNZ }
    | false => exact { carry := .inl (compareWith_flagC_kept s.x _ hswitch), resultFlags := .inr hNZ }

theorem footprint_ofRmw (op : RmwOp) (o : RmwOperand) (s : State) : Footprint (.ofRmw op o) s (rmwNext op o s) where
  memory := by
    obtain hmem | ⟨ha, hx, ea, hmem⟩ := writeRmw_mem o (rmwResult op o s) s
    · exact .kept hmem
    · exact .stored (storesMemory_ofRmw op ha hx) ea _ hmem
  carry := by
    by_cases hop : op ∈ [RmwOp.inc, .dec]
    · simp only [List.mem_cons, List.not_mem_nil, or_false] at hop
      obtain rfl | rfl := hop <;> exact .inl rfl
    · exact .inr (.inl (writesC_ofRmw o hop))
  resultFlags := .inr (writesNZ_ofRmw op o)
  a := (writeRmw_a o (rmwResult op o s) s).imp_right fun ho => .inr (.inl ⟨op, by rw [ho]⟩)
  x := (writeRmw_x o (rmwResult op o s) s).imp_right fun ho => .inr (.inl ⟨op, by rw [ho]⟩)

theorem footprint_ofTst (o : RmwOperand) (s : State) : Footprint (.ofTst o) s (testNext o s) where
  resultFlags := .inr (writesNZ_ofTst o)

theorem footprint_ofClr (o : RmwOperand) (s : State) : Footprint (.ofClr o) s (clearNext o s) where
  memory := by
    obtain hmem | ⟨ha, hx, ea, hmem⟩ := writeRmw_mem o 0 s
    · exact .kept hmem
    · exact .stored (storesMemory_ofClr ha hx) ea _ hmem
  resultFlags := .inr (writesNZ_ofClr o)
  a := (writeRmw_a o 0 s).imp_right fun ho => .inr (.inr (.inl (by rw [ho])))
  x := (writeRmw_x o 0 s).imp_right fun ho => .inr (.inr (.inl (by rw [ho])))

theorem footprint_ofSta (o : AddrOperand) (s : State) : Footprint (.ofSta o) s (storeNext s.a o s) where
  pc := .inr (by rw [len_ofSta]; rfl)
  memory := .stored (.inl ⟨o, rfl⟩) _ _ rfl
  resultFlags := .inr (writesNZ_ofSta o)

theorem footprint_ofStx {o : AddrOperand} {i : Instr} (h : Instr.ofStx o = some i) (s : State) :
    Footprint i s (storeNext s.x o s) where
  pc := .inr (by rw [len_ofStx h]; rfl)
  memory := .stored (.inr (.inl ⟨o, h⟩)) _ _ rfl
  resultFlags := .inr (writesNZ_ofStx h)

/-- Writing `pc` alone is the footprint of every instruction that may redirect. -/
theorem footprint_of_mayRedirect {i : Instr} (h : MayRedirect i) (s : State) (target : Addr) :
    Footprint i s { s with pc := target } where
  pc := .inl h

/-- The state after a call, field by field. -/
theorem callNext_eq (ra target : Addr) (s : State) : callNext ra target s = { s with
    sp := (pushAll (callBytes ra) s).sp
    ring := (pushAll (callBytes ra) s).ring
    pc := target } := by
  have hpushes : callNext ra target s = { pushAll (callBytes ra) s with pc := target } := rfl
  rw [hpushes, pushAll_frame (callBytes ra) s]

theorem footprint_call {i : Instr} (hredirect : MayRedirect i) (hring : ReachesRing i) (s : State) (ra target : Addr) :
    Footprint i s (callNext ra target s) := by
  rw [callNext_eq]
  exact { pc := .inl hredirect, stack := .pushed hring (callBytes ra) rfl rfl }

theorem footprint_ofBset (n : Fin 8) (dd v : Byte) (s : State) : Footprint (.ofBset n dd) s (bitWriteNext dd v s) where
  pc := .inr (by fin_cases n <;> rfl)
  memory := .stored (storesMemory_ofBset n dd) _ v rfl

theorem footprint_ofBclr (n : Fin 8) (dd v : Byte) (s : State) : Footprint (.ofBclr n dd) s (bitWriteNext dd v s) where
  pc := .inr (by fin_cases n <;> rfl)
  memory := .stored (storesMemory_ofBclr n dd) _ v rfl

/-- Every instruction completes, within its footprint. -/
theorem exec_footprint (i : Instr) (s : State) : ∃ t, exec i s = .next t ∧ Footprint i s t := by
  induction i using Instr.byForm with
  | value op o => exact ⟨_, exec_ofValue_eq_next op o s, footprint_ofValue op o s⟩
  | rmw op o => exact ⟨_, exec_ofRmw_eq_next op o s, footprint_ofRmw op o s⟩
  | tst o => exact ⟨_, exec_ofTst_eq_next o s, footprint_ofTst o s⟩
  | clr o => exact ⟨_, exec_ofClr_eq_next o s, footprint_ofClr o s⟩
  | sta o => exact ⟨_, exec_ofSta_eq_next o s, footprint_ofSta o s⟩
  | stx o i h => exact ⟨_, exec_ofStx_eq_next h s, footprint_ofStx h s⟩
  | jmp o => exact ⟨_, exec_ofJmp_eq_next o s, footprint_of_mayRedirect (mayRedirect_ofJmp o) s _⟩
  | jsr o => exact ⟨_, exec_ofJsr_eq_next o s, footprint_call (mayRedirect_ofJsr o) (.inr (.inl ⟨o, rfl⟩)) s _ _⟩
  | branch op rr => exact ⟨_, exec_ofBranch_eq_next op rr s, footprint_of_mayRedirect (.inl ⟨op, rr, rfl⟩) s _⟩
  | bset n dd => exact ⟨_, exec_ofBset_eq_next n dd s, footprint_ofBset n dd _ s⟩
  | bclr n dd => exact ⟨_, exec_ofBclr_eq_next n dd s, footprint_ofBclr n dd _ s⟩
  | brset n dd rr => exact ⟨_, exec_ofBrset_eq_next n dd rr s, footprint_of_mayRedirect (mayRedirect_ofBrset n dd rr) s _⟩
  | brclr n dd rr => exact ⟨_, exec_ofBrclr_eq_next n dd rr s, footprint_of_mayRedirect (mayRedirect_ofBrclr n dd rr) s _⟩
  | bsr rr => exact ⟨_, exec_bsr_eq_next rr s, footprint_call (mayRedirect_bsr rr) (.inl ⟨rr, rfl⟩) s _ _⟩
  | rts => exact ⟨_, exec_rts s, { pc := .inl mayRedirect_rts, stack := .popped reachesRing_rts 2 rfl rfl }⟩
  | swi =>
    exact ⟨_, exec_swi s, { pc := .inl mayRedirect_swi, stack := .pushed reachesRing_swi (swiBytes s) rfl rfl, mask := by simp }⟩
  | rti =>
    exact ⟨_, exec_rti_of_popAll rfl,
      { pc := .inl mayRedirect_rti, stack := .popped reachesRing_rti 5 rfl rfl, halfCarry := by simp, mask := by simp,
        carry := by simp [WritesC], resultFlags := .inr writesNZ_rti, a := by simp [WritesA], x := by simp [WritesX] }⟩
  | mul => exact ⟨_, exec_mul_eq_next s, { a := by simp [WritesA] }⟩
  | tax => exact ⟨_, exec_tax_eq_next s, { resultFlags := .inr writesNZ_tax, x := by simp [WritesX] }⟩
  | txa => exact ⟨_, exec_txa_eq_next s, { resultFlags := .inr writesNZ_txa, a := by simp [WritesA] }⟩
  | clc => exact ⟨_, exec_clc_eq_next s, { carry := by simp [WritesC] }⟩
  | sec => exact ⟨_, exec_sec_eq_next s, { carry := by simp [WritesC] }⟩
  | cli => exact ⟨_, exec_cli_eq_next s, { mask := by simp }⟩
  | sei => exact ⟨_, exec_sei_eq_next s, { mask := by simp }⟩
  | rsp => exact ⟨_, exec_rsp_eq_next s, { stack := .reset rfl rfl rfl }⟩
  | wait => exact ⟨_, exec_wait_eq_next s, {}⟩
  | stop => exact ⟨_, exec_stop_eq_next s, {}⟩

/-- A state that `exec` answers lies within the footprint. -/
theorem footprint_of_exec {i : Instr} {s t : State} (h : exec i s = .next t) : Footprint i s t := by
  obtain ⟨t', hnext, hfoot⟩ := exec_footprint i s
  rw [h, Host.Outcome.next.injEq] at hnext
  rwa [hnext]

/-! ### The rules of the whole machine -/

/-- Settles O9: every instruction completes within its footprint, of which latch and parameters are no part. -/
theorem everyInstructionCompletes : Obligations.EveryInstructionCompletes := by
  intro i s
  obtain ⟨t, hnext, hfoot⟩ := exec_footprint i s
  exact ⟨t, hnext, hfoot.fault, hfoot.cfg⟩

/-- Settles O53, from the footprint's `pc`. -/
theorem pcAdvancesByLength : Obligations.PcAdvancesByLength :=
  fun _ _ _ h => (footprint_of_exec h).pc

/-- Settles O54: where the footprint keeps the memory, the parameters it keeps too make every read the same. -/
theorem onlyStoresChangeMemory : Obligations.OnlyStoresChangeMemory := by
  intro i s t h
  have hfoot := footprint_of_exec h
  cases hfoot.memory with
  | kept hmem => exact .inr ⟨hmem, memRead_congr hmem hfoot.cfg⟩
  | stored hi => exact .inl hi

/-- Settles O55, from the four ways of the footprint's stack. -/
theorem onlyCallsReachRing : Obligations.OnlyCallsReachRing := by
  intro i s t h
  cases (footprint_of_exec h).stack with
  | kept hsp hring => exact .inr ⟨hring, .inl hsp⟩
  | reset hi _ hring => exact .inr ⟨hring, .inr hi⟩
  | pushed hi => exact .inl hi
  | popped hi => exact .inl hi

/-- Settles O56, from the footprint's `H` and `I`. -/
theorem halfCarryAndMaskWriters : Obligations.HalfCarryAndMaskWriters :=
  fun _ _ _ h => ⟨(footprint_of_exec h).halfCarry, (footprint_of_exec h).mask⟩

/-- Settles O57, from the footprint's `C`, `N` and `Z`. -/
theorem carryAndResultFlagWriters : Obligations.CarryAndResultFlagWriters :=
  fun _ _ _ h => ⟨(footprint_of_exec h).carry, (footprint_of_exec h).resultFlags⟩

/-- Settles O58, from the footprint's `a` and `x`. -/
theorem registerWriters : Obligations.RegisterWriters :=
  fun _ _ _ h => ⟨(footprint_of_exec h).a, (footprint_of_exec h).x⟩

/-! ### The invariant -/

theorem MemoryStep.keeps_wf {i : Instr} {s t : State} (h : MemoryStep i s t) (hwf : Memory.wf s.cfg.fill s.mem = true) :
    Memory.wf s.cfg.fill t.mem = true := by
  cases h with
  | kept hmem => rwa [hmem]
  | stored _ ea v hmem =>
    rw [hmem]
    exact memWrite_wf ea v hwf

theorem StackStep.keeps_stackOk {i : Instr} {s t : State} (h : StackStep i s t) (hcfg : t.cfg = s.cfg) (hinv : StateInv s) :
    StackOk t := by
  unfold StackOk
  rw [hcfg]
  cases h with
  | kept hsp hring =>
    rw [hsp, hring]
    exact hinv.stackOk
  | reset _ hsp hring =>
    have hsize := hinv.one_le_stackSize
    rw [hsp, hring]
    exact ⟨by rw [stackBottom]; omega, le_rfl, hinv.ring_len⟩
  | pushed _ vs hsp hring =>
    have hok := (hinv.after_pushAll vs).stackOk
    rw [StackOk, pushAll_cfg] at hok
    rwa [hsp, hring]
  | popped _ n hsp hring =>
    have hok := (hinv.after_popAll n).stackOk
    rw [StackOk, popAll_cfg, popAll_frame] at hok
    rwa [hsp, hring]

/-- Every instruction keeps the invariant. -/
theorem StateInv.after_exec {i : Instr} {s t : State} (hinv : StateInv s) (h : exec i s = .next t) : StateInv t := by
  have hfoot := footprint_of_exec h
  obtain ⟨hge, hle, hlen⟩ := hfoot.stack.keeps_stackOk hfoot.cfg hinv
  have hmem : Memory.wf t.cfg.fill t.mem = true := by
    rw [hfoot.cfg]
    exact hfoot.memory.keeps_wf hinv.mem_wf
  refine ⟨by rw [hfoot.cfg]; exact hinv.cfg_wf, hmem, hge, hle, hlen, ?latch⟩
  case latch =>
    rw [hfoot.fault, hfoot.cfg]
    exact hinv.latch_unknown

end Sys2Proof.Machine
end

section
/-! Proofs about the host port (70_reset_and_hazards.md R250, R256, R257): reset, the program load and the presets. -/

namespace Sys2Proof.Machine

/-! ### Reset -/

/-- Settles O11: reset assigns every field, from the parameters alone. -/
theorem resetLeavesSpecValues : Obligations.ResetLeavesSpecValues :=
  ⟨fun _ => ⟨rfl, rfl, rfl, rfl, rfl, rfl, fun _ => rfl, rfl, rfl⟩, fun _ => ⟨rfl, rfl⟩, Config.exampleInst, rfl⟩

theorem stateInv_resetWith {c : Config} (h : c.wf = true) : StateInv (State.resetWith c) := by
  obtain ⟨-, hpos, -, hring, -⟩ := Config.wf_iff.mp h
  refine ⟨h, rfl, ?sp, le_rfl, hring, nofun⟩
  case sp =>
    show c.stackTop.toNat + 1 - c.stackSize ≤ c.stackTop.toNat
    omega

/-- Settles O12: `sp` starts at the upper end of a window that is not empty, the memory is empty and nothing is latched. -/
theorem resetMeetsInvariant : Obligations.ResetMeetsInvariant :=
  ⟨fun _ h => stateInv_resetWith h, stateInv_resetWith Config.exampleInst_wf⟩

/-! ### Lists of bytes in memory -/

theorem add_one_add_ofNat (p : Addr) (k : Nat) : p + 1 + BitVec.ofNat 16 k = p + BitVec.ofNat 16 (k + 1) := by
  rw [BitVec.add_assoc, Nat.add_comm k, BitVec.ofNat_add]
  rfl

theorem add_ofNat_zero (p : Addr) : p + BitVec.ofNat 16 0 = p := BitVec.add_zero p

/-- Within one round of the address space an address is not met again. -/
theorem add_ofNat_succ_ne (p : Addr) {k : Nat} (hk : k + 1 < 65536) : p + BitVec.ofNat 16 (k + 1) ≠ p := by
  intro h
  have hsum := congrArg BitVec.toNat h
  rw [BitVec.toNat_add, BitVec.toNat_ofNat] at hsum
  omega

theorem writeBytes_cfg (s : State) (p : Addr) (bytes : List Byte) : (writeBytes s p bytes).cfg = s.cfg := by
  rw [(writeBytes_frame bytes s p).left]

/-- An address that no byte is written to reads as before. -/
theorem writeBytes_memRead_of_ne {s : State} (hwf : Memory.wf s.cfg.fill s.mem = true) {p q : Addr} {bytes : List Byte}
    (hne : ∀ k < bytes.length, q ≠ p + BitVec.ofNat 16 k) : (writeBytes s p bytes).memRead q = s.memRead q := by
  induction bytes generalizing s p with
  | nil => rfl
  | cons b rest ih =>
    have hfirst : q ≠ p := by simpa using hne 0 (Nat.zero_lt_succ _)
    have hrest : ∀ k < rest.length, q ≠ p + 1 + BitVec.ofNat 16 k := by
      intro k hk
      rw [add_one_add_ofNat]
      exact hne (k + 1) (Nat.succ_lt_succ hk)
    rw [writeBytes, ih (memWrite_wf p b hwf) hrest, memRead_memWrite hwf, if_neg hfirst]

/-- In a list that fits the address space, each byte is read back where it was written. -/
theorem writeBytes_memRead {s : State} (hwf : Memory.wf s.cfg.fill s.mem = true) {p : Addr} {bytes : List Byte}
    (hfits : bytes.length ≤ 65536) {k : Nat} (hk : k < bytes.length) :
    (writeBytes s p bytes).memRead (p + BitVec.ofNat 16 k) = bytes[k] := by
  induction bytes generalizing s p k with
  | nil => exact absurd hk (Nat.not_lt_zero k)
  | cons b rest ih =>
    have hwf' := memWrite_wf p b hwf
    rw [List.length_cons] at hfits
    rw [writeBytes]
    cases k with
    | zero =>
      have hrest : ∀ k < rest.length, p ≠ p + 1 + BitVec.ofNat 16 k := by
        intro k hk
        rw [add_one_add_ofNat]
        exact (add_ofNat_succ_ne p (by omega)).symm
      rw [add_ofNat_zero, writeBytes_memRead_of_ne hwf' hrest, memRead_memWrite hwf, if_pos rfl]
      rfl
    | succ k =>
      rw [← add_one_add_ofNat, ih hwf' (by omega) (Nat.lt_of_succ_lt_succ hk)]
      rfl

/-! ### The program load and the presets -/

/-- Settles O59: a program that fits is a list of bytes written at addresses that do not wrap. -/
theorem loadProgramWritesBytes : Obligations.LoadProgramWritesBytes := by
  intro s start bytes hinv
  refine ⟨fun hstart hfits => ?loaded, fun hlong => ?tooLong, fun hstart => ?noAddress⟩
  case loaded =>
    refine ⟨_, if_pos ⟨hstart, hfits⟩, (writeBytes_frame bytes s _).left, fun k hk => ?inside, fun addr haddr => ?outside⟩
    case inside =>
      rw [BitVec.ofNat_add]
      exact writeBytes_memRead hinv.mem_wf (by omega) hk
    case outside =>
      refine writeBytes_memRead_of_ne hinv.mem_wf fun k hk heq => ?_
      rw [heq, ← BitVec.ofNat_add, BitVec.toNat_ofNat] at haddr
      omega
  case tooLong => exact if_neg (by omega)
  case noAddress => exact if_neg (by omega)

/-- Settles O60: each range check is the bound of the field's width. -/
theorem presetsAreRangeChecked : Obligations.PresetsAreRangeChecked := by
  intro s v
  have hbyte : (v ≤ 255) = (v < 256) := propext Nat.lt_succ_iff.symm
  have haddr : (v ≤ 65535) = (v < 65536) := propext Nat.lt_succ_iff.symm
  have hbit : (v ≤ 1) = (v < 2) := propext Nat.lt_succ_iff.symm
  simp only [hbyte, haddr, hbit]
  exact ⟨rfl, rfl, rfl, rfl, rfl, rfl, rfl, rfl⟩

end Sys2Proof.Machine
end

section
/-! Proofs about fetching (40_dispatch_addressing.md R80, R81): with the operand bytes its opcode calls for at hand, a fetch decodes
unless the table has no entry. -/

namespace Sys2Proof

/-- An entry given the bytes it costs is filled. -/
theorem Entry.exists_build {opcode : Byte} {e : Entry} {bytes : List Byte} (h : bytes.length = e.operandBytes) :
    ∃ i rest, e.build opcode bytes = .ok (i, rest) := by
  cases e with
  | none i => exact ⟨i, bytes, rfl⟩
  | one mk =>
    obtain ⟨b, rfl⟩ := List.length_eq_one_iff.mp h
    exact ⟨mk b, [], rfl⟩
  | two mk =>
    obtain ⟨b, c, rfl⟩ := List.length_eq_two.mp h
    exact ⟨mk b c, [], rfl⟩
  | word mk =>
    obtain ⟨b, c, rfl⟩ := List.length_eq_two.mp h
    exact ⟨mk (joinBytes b c), [], rfl⟩

/-- The operand bytes of an instruction are as many as its format says (30_encoding.md R60, R61). -/
theorem Instr.operands_length (i : Instr) : i.operands.length = i.format.operandBytes := by
  cases i <;> rfl

theorem Format.operandBytes_le_two (f : Format) : f.operandBytes ≤ 2 := by
  cases f <;> decide

end Sys2Proof

namespace Sys2Proof.Machine

theorem readBytes_length (s : State) (addr : Addr) (n : Nat) : (readBytes s addr n).length = n := by
  induction n generalizing addr with
  | zero => rfl
  | succ n ih => rw [readBytes, List.length_cons, ih]

/-- A shorter read gives the first bytes of a longer one. -/
theorem readBytes_take (s : State) (addr : Addr) (n k : Nat) : (readBytes s addr (n + k)).take n = readBytes s addr n := by
  induction n generalizing addr with
  | zero => rfl
  | succ n ih => rw [Nat.succ_add, readBytes, readBytes, List.take_succ_cons, ih]

/-- A byte without an entry is refused whatever follows (30_encoding.md R69). -/
theorem fetchDecode_of_unassigned {s : State} (h : s.cfg.optab.lookup (s.memRead s.pc) = none) :
    fetchDecode s = .error (.unknownOpcode (s.memRead s.pc)) := by
  rw [fetchDecode, fetchBytes, decode_cons, h]

/-- A fetch that finds an instruction's opcode byte and operand bytes decodes to it. -/
theorem fetchDecode_of_assigned {s : State} {i : Instr} (hassigned : AssignedTo s.cfg.optab i (s.memRead s.pc))
    (hoperands : readBytes s (s.pc + 1) i.operands.length = i.operands) : fetchDecode s = .ok i := by
  have hcount : operandCount s.cfg.optab (s.memRead s.pc) = i.operands.length := by
    rw [operandCount, hassigned.left, i.operands_length]
    rfl
  have hdecode : decode s.cfg.optab (fetchBytes s) = .ok (i, []) := by
    rw [decode_eq_ok_iff, fetchBytes, hcount, hoperands]
    exact ⟨_, hassigned, (List.append_nil _).symm⟩
  rw [fetchDecode, hdecode]

/-- A fetch fails at an unassigned byte only: memory always delivers the operand bytes (30_encoding.md R68). -/
theorem lookup_of_fetchDecode_error {s : State} {e : DecodeError} (h : fetchDecode s = .error e) :
    s.cfg.optab.lookup (s.memRead s.pc) = none := by
  cases hlookup : s.cfg.optab.lookup (s.memRead s.pc) with
  | none => rfl
  | some d =>
    have hlength : (readBytes s (s.pc + 1) (operandCount s.cfg.optab (s.memRead s.pc))).length =
        (d.entry (s.memRead s.pc)).operandBytes := by
      rw [readBytes_length, operandCount, hlookup, Descriptor.entry_operandBytes]
    obtain ⟨i, rest, hbuild⟩ := Entry.exists_build (opcode := s.memRead s.pc) hlength
    rw [fetchDecode, fetchBytes, decode_cons, hlookup] at h
    simp only [hbuild, reduceCtorEq] at h

/-- If the three bytes from `pc` decode, the fetch decodes to the same instruction from as many of them as it needs. -/
theorem fetchDecode_of_decode {s : State} {i : Instr} {rest : List Byte}
    (h : decode s.cfg.optab [s.memRead s.pc, s.memRead (s.pc + 1), s.memRead (s.pc + 1 + 1)] = .ok (i, rest)) :
    fetchDecode s = .ok i := by
  obtain ⟨opcode, hassigned, hbytes⟩ := decode_eq_ok_iff.mp h
  rw [List.cons_append, List.cons.injEq] at hbytes
  obtain ⟨rfl, hoperands⟩ := hbytes
  have hread : readBytes s (s.pc + 1) 2 = i.operands ++ rest := hoperands
  have hle : i.operands.length ≤ 2 := by
    rw [i.operands_length]
    exact i.format.operandBytes_le_two
  refine fetchDecode_of_assigned hassigned ?operands
  case operands => rw [← readBytes_take s _ _ (2 - i.operands.length), Nat.add_sub_of_le hle, hread, List.take_left]

end Sys2Proof.Machine
end

section
/-! Proofs about the step (40_dispatch_addressing.md R80, R85; 60_exceptions.md R231, R232): its three cases, and what each of them
keeps. -/

namespace Sys2Proof.Machine

/-! ### The cases of a step -/

theorem step_of_latched {s : State} {r : FaultRecord} (h : s.fault = some r) : step s = .fault (.halted r) := by
  rw [step, h]

theorem step_of_fetched {s : State} {i : Instr} (hfault : s.fault = none) (hfetch : fetchDecode s = .ok i) :
    step s = exec i s := by
  rw [step, hfault, hfetch]

theorem step_of_unassigned {s : State} (hfault : s.fault = none) (h : s.cfg.optab.lookup (s.memRead s.pc) = none) :
    step s = .next (s.latchUnknownOpcode (s.memRead s.pc)) := by
  rw [step, hfault, fetchDecode_of_unassigned h]

/-- With no fault latched the step runs an instruction or meets an unassigned byte. -/
theorem step_cases {s : State} (hfault : s.fault = none) :
    (∃ i, step s = exec i s) ∨
      (s.cfg.optab.lookup (s.memRead s.pc) = none ∧ step s = .next (s.latchUnknownOpcode (s.memRead s.pc))) := by
  cases hfetch : fetchDecode s with
  | ok i => exact .inl ⟨i, step_of_fetched hfault hfetch⟩
  | error e =>
    have hlookup := lookup_of_fetchDecode_error hfetch
    exact .inr ⟨hlookup, step_of_unassigned hfault hlookup⟩

/-- A step that answers a next state began with no fault latched. -/
theorem fault_of_step_next {s t : State} (h : step s = .next t) : s.fault = none := by
  cases hfault : s.fault with
  | none => rfl
  | some r =>
    rw [step_of_latched hfault] at h
    cases h

/-- How a next state comes about: an instruction ran, or the latch was set at an unassigned byte. -/
theorem step_next_cases {s t : State} (h : step s = .next t) :
    (∃ i, exec i s = .next t) ∨
      (s.cfg.optab.lookup (s.memRead s.pc) = none ∧ t = s.latchUnknownOpcode (s.memRead s.pc)) := by
  obtain ⟨i, hexec⟩ | ⟨hlookup, hlatch⟩ := step_cases (fault_of_step_next h)
  · exact .inl ⟨i, hexec.symm.trans h⟩
  · exact .inr ⟨hlookup, Host.Outcome.next.inj (h.symm.trans hlatch)⟩

/-! ### The obligations -/

/-- Setting the latch at an unassigned byte keeps the invariant. -/
theorem StateInv.after_latch {s : State} (h : StateInv s) {b : Byte} (hb : s.cfg.optab.lookup b = none) :
    StateInv (s.latchUnknownOpcode b) := by
  refine ⟨h.cfg_wf, h.mem_wf, h.sp_ge, h.sp_le, h.ring_len, ?latch⟩
  case latch =>
    rintro r hr
    rw [latchUnknownOpcode_fault, Option.some.injEq] at hr
    rw [← hr]
    exact ⟨rfl, hb⟩

/-- Settles O13: an instruction keeps the invariant, and so does the latch. -/
theorem stepKeepsInvariant : Obligations.StepKeepsInvariant := by
  intro s t hinv h
  obtain ⟨i, hexec⟩ | ⟨hlookup, rfl⟩ := step_next_cases h
  · exact hinv.after_exec hexec
  · exact hinv.after_latch hlookup

/-- Settles O8: with a latched fault the step reports it, without one it completes in either case. -/
theorem stepIsTotal : Obligations.StepIsTotal := by
  intro s
  cases hfault : s.fault with
  | some r => exact .inr ⟨r, rfl, step_of_latched hfault⟩
  | none =>
    refine .inl ⟨rfl, ?next⟩
    obtain ⟨i, hexec⟩ | ⟨-, hlatch⟩ := step_cases hfault
    · obtain ⟨t, hnext, -⟩ := exec_footprint i s
      exact ⟨t, hexec.trans hnext⟩
    · exact ⟨_, hlatch⟩

/-- Settles O14: no footprint has the parameters in it, and the latch is a field of its own. -/
theorem stepKeepsParameters : Obligations.StepKeepsParameters := by
  intro s t h
  refine ⟨?cfg, fault_of_step_next h⟩
  case cfg =>
    obtain ⟨i, hexec⟩ | ⟨-, rfl⟩ := step_next_cases h
    · exact (footprint_of_exec hexec).cfg
    · exact latchUnknownOpcode_cfg s _

/-- Settles O1: the fetch decodes what the three bytes decode to. -/
theorem stepRunsDecodedInstruction : Obligations.StepRunsDecodedInstruction := by
  intro s i rest hfault _ h
  have haddr : s.pc + 2 = s.pc + 1 + 1 := by rw [BitVec.add_assoc]; rfl
  rw [haddr] at h
  exact step_of_fetched hfault (fetchDecode_of_decode h)

/-- Settles O6: both kinds of byte have no entry. -/
theorem unknownOpcodeLatches : Obligations.UnknownOpcodeLatches := by
  rintro s hfault (hlookup | ⟨hdefault, hillegal⟩)
  · exact step_of_unassigned hfault hlookup
  · have hlookup : s.cfg.optab.lookup (s.memRead s.pc) = none := by
      rw [hdefault, illegalOpcodesAreTheListed.right]
      exact hillegal
    exact step_of_unassigned hfault hlookup

/-- Settles O7: the latch is looked at before anything is fetched. -/
theorem haltedStateReportsSameFault : Obligations.HaltedStateReportsSameFault :=
  fun _ _ h => step_of_latched h

/-- Settles O42: `bra` with offset `FE` is fetched, and its target, two bytes on and two back, is the `pc` it began at. -/
theorem branchToItselfStays : Obligations.BranchToItselfStays := by
  intro s hfault hoffset hopcode
  have hlookup : s.cfg.optab.lookup (s.memRead s.pc) = some (.branch .bra) := by
    obtain hlookup | ⟨hdefault, hbyte⟩ := hopcode
    · exact hlookup
    · rw [hdefault, hbyte]
      rfl
  have hfetch : fetchDecode s = .ok (.bra 0xFE) :=
    fetchDecode_of_assigned ⟨hlookup, nofun⟩ (congrArg (fun b => [b]) hoffset)
  have htarget : relTarget .rel 0xFE s = s.pc := by
    rw [relTarget, nextPc, BitVec.add_assoc]
    exact BitVec.add_zero s.pc
  have hexec : exec (.bra 0xFE) s = .next { s with pc := relTarget .rel 0xFE s } := exec_ofBranch_eq_next .bra 0xFE s
  rw [step_of_fetched hfault hfetch, hexec, htarget]

/-! ### A word placed at `pc` -/

theorem placeAtPc_pc (s : State) (bytes : List Byte) : (placeAtPc s bytes).pc = s.pc := by
  rw [placeAtPc, (writeBytes_frame bytes s s.pc).left]

theorem placeAtPc_cfg (s : State) (bytes : List Byte) : (placeAtPc s bytes).cfg = s.cfg :=
  writeBytes_cfg s s.pc bytes

/-- Three bytes placed are the three bytes read from `pc` on. -/
theorem StateInv.placeAtPc_memRead {s : State} (h : StateInv s) (b c d : Byte) :
    (placeAtPc s [b, c, d]).memRead s.pc = b ∧ (placeAtPc s [b, c, d]).memRead (s.pc + 1) = c ∧
      (placeAtPc s [b, c, d]).memRead (s.pc + 2) = d := by
  have hread {k : Nat} (hk : k < 3) : (placeAtPc s [b, c, d]).memRead (s.pc + BitVec.ofNat 16 k) = [b, c, d][k] :=
    writeBytes_memRead h.mem_wf (by simp) hk
  have hopcode := hread (k := 0) (by decide)
  rw [add_ofNat_zero] at hopcode
  exact ⟨hopcode, hread (k := 1) (by decide), hread (k := 2) (by decide)⟩

/-- An opcode-table word is placed as the three bytes it stands for. -/
theorem StateInv.withFetchWord_memRead {s : State} (h : StateInv s) (nbits w : Nat) :
    [(s.withFetchWord nbits w).memRead s.pc, (s.withFetchWord nbits w).memRead (s.pc + 1),
      (s.withFetchWord nbits w).memRead (s.pc + 2)] = tableWordBytes nbits w := by
  obtain ⟨b, c, d, hword⟩ : ∃ b c d, tableWordBytes nbits w = [b, c, d] := ⟨_, _, _, rfl⟩
  obtain ⟨hb, hc, hd⟩ := h.placeAtPc_memRead b c d
  rw [State.withFetchWord, hword, hb, hc, hd]

/-- The opcode-table word decodes under the default table as its bytes do. -/
theorem decode_of_decodeTableWord {nbits w : Nat} {i : Instr} (h : decodeTableWord nbits w = some i) :
    ∃ rest, decode defaultOptab (tableWordBytes nbits w) = .ok (i, rest) := by
  unfold decodeTableWord at h
  split at h
  case h_1 j rest hdecode =>
    rw [Option.some.injEq] at h
    exact ⟨rest, by rw [hdecode, h]⟩
  case h_2 => cases h

/-- Settles O10: the three bytes at `pc` are those of the word, so the step runs what they decode to. -/
theorem placedWordRuns : Obligations.PlacedWordRuns := by
  intro s nbits w i hinv hword
  obtain ⟨rest, hdecode⟩ : ∃ rest, decode s.cfg.optab (tableWordBytes nbits w) = .ok (i, rest) := by
    obtain hdecode | ⟨hdefault, hword⟩ := hword
    · exact hdecode
    · rw [hdefault]
      exact decode_of_decodeTableWord hword
  have hpc : (s.withFetchWord nbits w).pc = s.pc := placeAtPc_pc s _
  have hcfg : (s.withFetchWord nbits w).cfg = s.cfg := placeAtPc_cfg s _
  refine stepRunsDecodedInstruction (s.withFetchWord nbits w) i rest rfl rfl ?fetched
  case fetched =>
    rw [hpc, hcfg, hinv.withFetchWord_memRead]
    exact hdecode

end Sys2Proof.Machine
end
